-- ==== Sys2Proof/Word.lean ====
section
/-! DEFINITION. Sys2Proof/Word.lean: the two word types of the machine (00_scope.md R6): bytes and 16-bit words,
with the wrapping arithmetic of BitVec. -/

namespace Sys2Proof

/-- A `u8`: an 8-bit unsigned value, bit 0 least significant (R6). -/
abbrev Byte := BitVec 8

/-- A `u16`: a 16-bit unsigned value; every bus address is one (R6, R60). -/
abbrev Word := BitVec 16

end Sys2Proof
end

