-- ==== Sys2Proof/Machine/Bits.lean ====
section
/-! DEFINITION. Sys2Proof/Machine/Bits.lean: byte order, sign extension and bit-field helpers used by the decoder and
the machine (00_scope.md R6, 20_memory.md R70). -/

namespace Sys2Proof.Machine

/-- `v[15:8]` (R6). -/
def hiByte (w : Word) : Byte := w.extractLsb' 8 8

/-- `v[7:0]` (R6). -/
def loByte (w : Word) : Byte := w.extractLsb' 0 8

/-- `{hi, lo}`: the first-named byte in bits 15:8 (R6, R21). -/
def mkWord (hi lo : Byte) : Word := hi ++ lo

/-- `sext_16(b)`: `b` read as a two's-complement byte and widened to 16 bits (R6). -/
def sext16 (b : Byte) : Word := b.signExtend 16

/-- `v[3:0]` as a number. -/
def lowNibble (b : Byte) : Nat := b.toNat % 16

/-- The byte whose bits, from bit 7 down to bit 0, are the arguments. -/
def byteOfBits (b7 b6 b5 b4 b3 b2 b1 b0 : Bool) : Byte :=
  BitVec.ofBool b7 ++ BitVec.ofBool b6 ++ BitVec.ofBool b5 ++ BitVec.ofBool b4 ++
    BitVec.ofBool b3 ++ BitVec.ofBool b2 ++ BitVec.ofBool b1 ++ BitVec.ofBool b0

/-- The byte with one bit set: `1 << b` for a bit number 0 to 7 (R229, R230). -/
def bitMask (b : Fin 8) : Byte := (1 : Byte) <<< b.val

end Sys2Proof.Machine
end

