-- ==== Sys2Proof/Config.lean ====
section
/-! DEFINITION. Sys2Proof/Config.lean: what is fixed for a machine. The constants of the hardware, and the parameters of
00_scope.md R5, which a machine is constructed with and no step changes (10_state.md R48). The document leaves no result
of an instruction open, so there is no free value. -/

namespace Sys2Proof

/-- The contents of a memory as a list of offsets and bytes, the offset counted from the memory's own start. Its
canonical form and what an unlisted offset reads as are in Machine/Memory.lean. -/
abbrev Memory := List Host.Cell

/-- `CART_KIND` (R5): the two cartridge variants of 20_memory.md section 4. -/
inductive CartKind where
  | rom0
  | mbc1
  deriving DecidableEq, Repr

/-- The implementation parameters of R5, arguments of construction (R400). `CLOCK_BITS` is not among them: the clock is
a natural number, as R30 allows.
* `cartRom`: `CART_ROM`, held by what reading it gives: an offset the list does not name reads `0xFF`, which is also
  what every offset at or beyond the image's length reads (R80, R82).
* `bootRom`: `BOOT_ROM`, 256 bytes, or `none` where no image was embedded (R401).
* `intEntryInternalMc`: `INT_ENTRY_INTERNAL_MC` (R293). -/
structure Params where
  cartKind : CartKind
  cartRom : Memory
  bootRom : Option Memory
  useBootRom : Bool
  intEntryInternalMc : Nat
  deriving DecidableEq, Repr

/-- Ticks of one scanline (R351). -/
abbrev ticksPerLine : Nat := 456

/-- `ppu_clock` of the start of line 144, the first tick of V-blank (R351, R364): 144 × 456. -/
abbrev vblankStart : Nat := 65664

/-- Ticks of one frame (R351): 456 × 154. -/
abbrev ticksPerFrame : Nat := 70224

/-- `ppu_clock` of the last tick of a frame (R366). -/
abbrev lastTick : Nat := 70223

/-- Columns of the frame buffer (R45). -/
abbrev screenWidth : Nat := 160

/-- Entries of the frame buffer (R45): 160 × 144. -/
abbrev screenPixels : Nat := 23040

/-- Bytes an OAM-DMA transfer copies (R331). -/
abbrev dmaLength : Nat := 160

/-- The vector of interrupt source `n` (R285): `0x0040 + 8 * n`. -/
def interruptVector (n : Nat) : Word := BitVec.ofNat 16 (0x40 + 8 * n)

/-- The fixed RGB palette of R384, opaque alpha included. -/
def shadeColour (shade : BitVec 2) : BitVec 32 :=
  match shade.toNat with
  | 0 => 0xFFD7E894
  | 1 => 0xFFAEC440
  | 2 => 0xFF527F39
  | _ => 0xFF204631

end Sys2Proof
end

