-- ==== Sys2Proof/Machine/State.lean ====
section
/-! DEFINITION. Sys2Proof/Machine/State.lean: everything 10_state.md gives the machine (R20), by owner, as plain data;
the ways a step can stop; and reset (R51, R52, R400). -/

namespace Sys2Proof.Machine

/-- The terminal status of R27. -/
inductive Status where
  /-- The machine runs. -/
  | running
  /-- An undefined opcode was fetched (R281): the byte, and the address it was fetched from. -/
  | undefinedOpcode (byte : Byte) (pc : Word)
  /-- `STOP` was executed (R282). -/
  | stopExecuted
  deriving DecidableEq, Repr

/-- The CPU register file (R21 to R24). `f` holds the flags in bits 7 to 4. -/
structure Regs where
  a : Byte
  f : Byte
  b : Byte
  c : Byte
  d : Byte
  e : Byte
  h : Byte
  l : Byte
  sp : Word
  pc : Word
  deriving DecidableEq, Repr

/-- The CPU control state (R25 to R27). -/
structure Ctl where
  ime : Bool
  halt : Bool
  stop : Bool
  status : Status
  deriving DecidableEq, Repr

/-- The eight keys (R32), `true` for pressed. -/
structure Pad where
  up : Bool
  down : Bool
  left : Bool
  right : Bool
  a : Bool
  b : Bool
  start : Bool
  select : Bool
  deriving DecidableEq, Repr

/-- The joypad (R32): the two select latches and the pad. -/
structure Joypad where
  button : Bool
  dpad : Bool
  pad : Pad
  deriving DecidableEq, Repr

/-- The OAM-DMA controller (R33). -/
structure Dma where
  active : Bool
  sourcePage : Byte
  index : Nat
  deriving DecidableEq, Repr

/-- The timer (R34); `tac` is held as 3 bits. -/
structure Timer where
  div : Byte
  tima : Byte
  tma : Byte
  tac : BitVec 3
  deriving DecidableEq, Repr

/-- The MBC1 registers (R37); a bank-0 cartridge never reads or writes them. -/
structure Mbc where
  bank : Byte
  ramEnable : Bool
  deriving DecidableEq, Repr

/-- The memories that hold plain bytes (R31, R36, R37, R38), by offset from their own start. -/
structure Mems where
  vram : Memory
  oam : Memory
  wram : Memory
  hram : Memory
  cartRam : Memory
  deriving DecidableEq, Repr

/-- The `mode` field of `STAT` (R40): 0, 1, 2, 3 in this order. -/
inductive PpuMode where
  | hblank
  | vblank
  | oamScan
  | draw
  deriving DecidableEq, Repr

/-- A sprite cache entry (R44): screen column and row of its top left corner, and the eight colour indexes of its
pixels on this scanline, leftmost first, after flips. -/
structure Sprite where
  x : Int
  y : Int
  tile : Byte
  attr : Byte
  pix : Vector (BitVec 2) 8
  deriving DecidableEq, Repr

/-- The PPU's registers and counters (R39 to R45). `statEnables` holds, from bit 3 down, `lyc_irq`, `oam_irq`,
`vblank_irq`, `hblank_irq` (R40); `fb` is the frame buffer
(R45): entry `y * 160 + x` is the pixel of row `y` and column `x`, in the canonical form of Machine/Memory.lean with 0,
its value at reset (R52), for an entry that is not listed. -/
structure Ppu where
  lcdc : Byte
  statEnables : BitVec 4
  mode : PpuMode
  scy : Byte
  scx : Byte
  ly : Byte
  lyc : Byte
  wy : Byte
  wx : Byte
  bgp : Byte
  obp0 : Byte
  obp1 : Byte
  ppuClock : Nat
  lx : Nat
  sprites : List Sprite
  fb : List (Nat × BitVec 32)
  deriving DecidableEq, Repr

/-- The state of the machine (R20), and the parameters it was constructed with (R48), which no step changes. -/
structure State where
  regs : Regs
  ctl : Ctl
  ie : BitVec 5
  irq : BitVec 5
  clock : Nat
  joypad : Joypad
  dma : Dma
  timer : Timer
  bootMapped : Bool
  mbc : Mbc
  mems : Mems
  ppu : Ppu
  params : Params
  deriving DecidableEq, Repr

/-- Why a step has no next state. -/
inductive Fault where
  /-- The machine is in a terminal status, which has no successor (R283). Raised by `step` alone; safe. -/
  | terminal (status : Status)
  deriving DecidableEq, Repr

/-- Why the model gives something no meaning. -/
inductive Refusal where
  /-- An instruction without a meaning yet. Raised by no arm of `exec`; safe. -/
  | notModelled (mnemonic : String)
  /-- Construction with the boot ROM but without an image (R401: "the boot path must be disabled"). Raised by
  `State.construct` alone; safe. -/
  | bootRomAbsent
  deriving DecidableEq, Repr

/-- What a meaning answers. -/
abbrev Result := Host.Outcome State Fault Refusal

/-- The CPU registers when the boot ROM is bypassed (R51). -/
def Regs.postBoot : Regs :=
  { a := 0x01, f := 0xB0, b := 0x00, c := 0x13, d := 0x00, e := 0xD8, h := 0x01, l := 0x4D, sp := 0xFFFE, pc := 0x0100 }

/-- The CPU registers when the boot ROM is used (R51, decision D11). -/
def Regs.zero : Regs :=
  { a := 0, f := 0, b := 0, c := 0, d := 0, e := 0, h := 0, l := 0, sp := 0, pc := 0 }

/-- No key is pressed. -/
def Pad.released : Pad :=
  { up := false, down := false, left := false, right := false, a := false, b := false, start := false, select := false }

/-- The PPU after reset (R52). -/
def Ppu.initial : Ppu :=
  { lcdc := 0, statEnables := 0, mode := .hblank, scy := 0, scx := 0, ly := 0, lyc := 0, wy := 0, wx := 0, bgp := 0,
    obp0 := 0, obp1 := 0, ppuClock := 0, lx := 0, sprites := [], fb := [] }

/-- Every piece of state as construction with the parameters `p` leaves it (R51, R52). -/
def State.initial (p : Params) : State :=
  { regs := if p.useBootRom then Regs.zero else Regs.postBoot
    ctl := { ime := false, halt := false, stop := false, status := .running }
    ie := 0
    irq := 0
    clock := 0
    joypad := { button := false, dpad := false, pad := Pad.released }
    dma := { active := false, sourcePage := 0, index := 0 }
    timer := { div := 0, tima := 0, tma := 0, tac := 0 }
    bootMapped := p.useBootRom
    mbc := { bank := 1, ramEnable := false }
    mems := { vram := [], oam := [], wram := [], hram := [], cartRam := [] }
    ppu := Ppu.initial
    params := p }

/-- The host's construction of a machine (R400, R401): with `USE_BOOT_ROM` and no image it is refused. -/
def State.construct (p : Params) : Result :=
  if p.useBootRom && p.bootRom.isNone then .refused .bootRomAbsent else .next (State.initial p)

/-- The parameters of `State.reset`: no boot ROM, a bank-0 cartridge with the empty image, which reads `0xFF`
everywhere, and the literal reading of interrupt entry (log entries 1 and 2). -/
def Params.default : Params :=
  { cartKind := .rom0, cartRom := [], bootRom := none, useBootRom := false, intEntryInternalMc := 0 }

/-- The machine right after reset (R51, R52, R400, variant (b) of R401). -/
def State.reset : State := State.initial Params.default

end Sys2Proof.Machine
end

