-- ==== Sys2Proof/Machine/Memory.lean ====
section
/-! DEFINITION. Sys2Proof/Machine/Memory.lean: reading and writing one memory of the machine by offset. A memory is a list
of offsets and bytes in canonical form: offsets strictly rising, and no byte equal to what an unlisted offset reads as.
The frame buffer is held in the same form. -/

namespace Sys2Proof.Machine

/-- The memories of the machine (R20), each with its own offsets. -/
inductive Region where
  | bootRom
  | cartRom
  | vram
  | cartRam
  | wram
  | oam
  | hram
  deriving DecidableEq, Repr

/-- What an offset that the list does not name reads as: `0xFF` in the cartridge image, where it is also what an offset
beyond the image reads as (R80, R82); `0x00` in every other memory, the contents of the RAMs at reset (R52, D10). -/
def Region.unlisted : Region → Byte
  | .cartRom => 0xFF
  | .bootRom => 0x00
  | .vram => 0x00
  | .cartRam => 0x00
  | .wram => 0x00
  | .oam => 0x00
  | .hram => 0x00

/-- How many bytes a region has (R5, R31, R36 to R38); the image may have any length, of which the largest bank
register reaches 256 banks of `0x4000` bytes (R82). -/
def Region.size : Region → Nat
  | .bootRom => 256
  | .cartRom => 0x400000
  | .vram => 0x2000
  | .cartRam => 0x2000
  | .wram => 0x2000
  | .oam => 160
  | .hram => 127

/-- The entry at index `k`, `d` where the list does not name it. -/
def readAt {α : Type} (d : α) : List (Nat × α) → Nat → α
  | [], _ => d
  | (a, v) :: rest, k => if k = a then v else if k < a then d else readAt d rest k

/-- Store `v` at index `k`, keeping the canonical form for the unlisted value `d`. -/
def writeAt {α : Type} [DecidableEq α] (d : α) : List (Nat × α) → Nat → α → List (Nat × α)
  | [], k, v => if v = d then [] else [(k, v)]
  | (a, w) :: rest, k, v =>
    if k < a then (if v = d then (a, w) :: rest else (k, v) :: (a, w) :: rest)
    else if k = a then (if v = d then rest else (k, v) :: rest)
    else (a, w) :: writeAt d rest k v

/-- Every index the list names is above `k`, the indexes rise strictly, and no entry is `d`. -/
def risesAbove {α : Type} [DecidableEq α] (d : α) : Nat → List (Nat × α) → Bool
  | _, [] => true
  | k, (a, v) :: rest => decide (k < a) && decide (v ≠ d) && risesAbove d a rest

/-- The canonical form for the unlisted value `d`. -/
def canonical {α : Type} [DecidableEq α] (d : α) : List (Nat × α) → Bool
  | [] => true
  | (a, v) :: rest => decide (v ≠ d) && risesAbove d a rest

/-- Every index the list names is below `n`. -/
def allBelow {α : Type} (n : Nat) (m : List (Nat × α)) : Bool := m.all fun c => decide (c.1 < n)

/-- The byte of a region's memory at offset `k`. -/
def Memory.read (r : Region) (m : Memory) (k : Nat) : Byte := readAt r.unlisted m k

/-- Store a byte in a region's memory. -/
def Memory.write (r : Region) (m : Memory) (k : Nat) (v : Byte) : Memory := writeAt r.unlisted m k v

/-- The entries of a list of bytes laid out from offset `k` on. -/
def Memory.entriesFrom (r : Region) : Nat → List Byte → Memory
  | _, [] => []
  | k, v :: rest => if v = r.unlisted then Memory.entriesFrom r (k + 1) rest else (k, v) :: Memory.entriesFrom r (k + 1) rest

/-- The memory of a region whose first bytes are the list's: how a cartridge or boot image is loaded (R5, R400). -/
def Memory.ofBytes (r : Region) (bytes : List Byte) : Memory := Memory.entriesFrom r 0 bytes

/-- A region's memory is in canonical form and names offsets of the region alone. -/
def Memory.wf (r : Region) (m : Memory) : Bool := canonical r.unlisted m && allBelow r.size m

/-! ### The frame buffer (R45) -/

/-- Entry `k` of the frame buffer. -/
def pixelAt (fb : List (Nat × BitVec 32)) (k : Nat) : BitVec 32 := readAt 0 fb k

/-- Store an entry of the frame buffer; an index outside it stores nothing. -/
def putPixel (fb : List (Nat × BitVec 32)) (k : Nat) (v : BitVec 32) : List (Nat × BitVec 32) :=
  if k < screenPixels then writeAt 0 fb k v else fb

/-- The frame buffer is in canonical form and names entries of the frame buffer alone. -/
def frameBufferWf (fb : List (Nat × BitVec 32)) : Bool := canonical (0 : BitVec 32) fb && allBelow screenPixels fb

end Sys2Proof.Machine
end

