-- ==== Sys2Proof/Machine/Bus.lean ====
section
/-! DEFINITION. Sys2Proof/Machine/Bus.lean: the device table of 20_memory.md (R63), `BusRead` and `BusWrite` (R61, R62),
the registers behind the bus (10_state.md R53) and the cartridge variants (R80 to R86). -/

namespace Sys2Proof.Machine

/-- The registers of `0xFF00` to `0xFF0F` that hold state (R53); the serial stub and the addresses without a register
read `0xFF` and ignore writes like unmapped ones (R67). -/
inductive IoReg where
  | joyp
  | div
  | tima
  | tma
  | tac
  | irq
  deriving DecidableEq, Repr

/-- The PPU registers of `0xFF40` to `0xFF4B` (R39 to R42). -/
inductive PpuReg where
  | lcdc
  | stat
  | scy
  | scx
  | ly
  | lyc
  | bgp
  | obp0
  | obp1
  | wy
  | wx
  deriving DecidableEq, Repr

/-- What the bus finds behind an address (R63), with the offset inside it. `cartRom` carries the bus address, since the
cartridge decodes it itself. -/
inductive Device where
  | bootRom (offset : Nat)
  | cartRom (addr : Nat)
  | vram (offset : Nat)
  | cartRam (offset : Nat)
  | wram (offset : Nat)
  | oam (offset : Nat)
  | io (r : IoReg)
  | dma
  | ppu (r : PpuReg)
  | bootUnmap
  | hram (offset : Nat)
  | ie
  | unmapped
  deriving DecidableEq, Repr

/-- The device of the addresses `0xFF00` to `0xFF7F` (R53, rows 8 to 12 of R63), by the low byte of the address. -/
def pageDevice (n : Nat) : Device :=
  if n = 0x00 then .io .joyp
  else if n = 0x04 then .io .div
  else if n = 0x05 then .io .tima
  else if n = 0x06 then .io .tma
  else if n = 0x07 then .io .tac
  else if n = 0x0F then .io .irq
  else if n = 0x40 then .ppu .lcdc
  else if n = 0x41 then .ppu .stat
  else if n = 0x42 then .ppu .scy
  else if n = 0x43 then .ppu .scx
  else if n = 0x44 then .ppu .ly
  else if n = 0x45 then .ppu .lyc
  else if n = 0x46 then .dma
  else if n = 0x47 then .ppu .bgp
  else if n = 0x48 then .ppu .obp0
  else if n = 0x49 then .ppu .obp1
  else if n = 0x4A then .ppu .wy
  else if n = 0x4B then .ppu .wx
  else if n = 0x50 then .bootUnmap
  else .unmapped

/-- The device table of R63, read from the top. -/
def deviceAt (bootMapped : Bool) (addr : Word) : Device :=
  let a := addr.toNat
  if a < 0x100 && bootMapped then .bootRom a
  else if a < 0x8000 then .cartRom a
  else if a < 0xA000 then .vram (a - 0x8000)
  else if a < 0xC000 then .cartRam (a - 0xA000)
  else if a < 0xFE00 then .wram (a % 0x2000)
  else if a < 0xFEA0 then .oam (a - 0xFE00)
  else if a < 0xFF00 then .unmapped
  else if a < 0xFF80 then pageDevice (a - 0xFF00)
  else if a < 0xFFFF then .hram (a - 0xFF80)
  else .ie

/-! ### The cartridge -/

/-- The image offset behind a bus address below `0x8000`: the address itself, but for the switchable half of an MBC1
cartridge, which shows bank `mbc.bank` (R80, R82). -/
def cartRomOffset (s : State) (a : Nat) : Nat :=
  match s.params.cartKind with
  | .rom0 => a
  | .mbc1 => if a < 0x4000 then a else s.mbc.bank.toNat * 0x4000 + (a - 0x4000)

/-- A cartridge ROM read (R80, R82). -/
def cartRomRead (s : State) (a : Nat) : Byte := Memory.read .cartRom s.params.cartRom (cartRomOffset s a)

/-- The bank register after a write of `v` (R83): all eight bits are kept, and bit 0 is set if the low five are zero. -/
def bankWritten (v : Byte) : Byte := if v &&& 0x1F = 0 then v ||| 0x01 else v

/-- A cartridge write below `0x8000`: ignored by a bank-0 cartridge (R81); RAM enable (R84), bank register (R83) or
nothing (R86) for MBC1. -/
def cartRomWrite (s : State) (a : Nat) (v : Byte) : State :=
  match s.params.cartKind with
  | .rom0 => s
  | .mbc1 =>
    if a < 0x2000 then { s with mbc := { s.mbc with ramEnable := decide (v &&& 0x0F = 0x0A) } }
    else if a < 0x4000 then { s with mbc := { s.mbc with bank := bankWritten v } }
    else s

/-- External RAM answers: the cartridge is an MBC1 and its RAM is enabled (R80, R85). -/
def cartRamEnabled (s : State) : Bool :=
  match s.params.cartKind with
  | .rom0 => false
  | .mbc1 => s.mbc.ramEnable

/-! ### The registers -/

/-- The read value of `0xFF00` (R341): two zero bits, the select bits active low, and the keys of the selected groups
active low. -/
def joypadRead (j : Joypad) : Byte :=
  byteOfBits false false (!j.button) (!j.dpad)
    (!(j.button && j.pad.start) && !(j.dpad && j.pad.down))
    (!(j.button && j.pad.select) && !(j.dpad && j.pad.up))
    (!(j.button && j.pad.b) && !(j.dpad && j.pad.left))
    (!(j.button && j.pad.a) && !(j.dpad && j.pad.right))

/-- The select latches after a write to `0xFF00` (R340): a 0 in bit 5 selects the buttons, a 0 in bit 4 the D-pad. -/
def joypadWrite (j : Joypad) (v : Byte) : Joypad := { j with button := !v.getLsbD 5, dpad := !v.getLsbD 4 }

/-- The two mode bits of `STAT` (R40). -/
def modeBits : PpuMode → BitVec 2
  | .hblank => 0
  | .vblank => 1
  | .oamScan => 2
  | .draw => 3

/-- The read value of `STAT` (R40): bits 7 and 2 are zero. -/
def statRead (p : Ppu) : Byte := (0 : BitVec 1) ++ p.statEnables ++ (0 : BitVec 1) ++ modeBits p.mode

/-- A read of a register of `0xFF00` to `0xFF0F` (R53): unimplemented bits read 0 (D14). -/
def ioRead (s : State) : IoReg → Byte
  | .joyp => joypadRead s.joypad
  | .div => s.timer.div
  | .tima => s.timer.tima
  | .tma => s.timer.tma
  | .tac => s.timer.tac.setWidth 8
  | .irq => s.irq.setWidth 8

/-- A write to a register of `0xFF00` to `0xFF0F` (R53). -/
def ioWrite (s : State) (r : IoReg) (v : Byte) : State :=
  match r with
  | .joyp => { s with joypad := joypadWrite s.joypad v }
  | .div => { s with timer := { s.timer with div := 0 } }
  | .tima => { s with timer := { s.timer with tima := v } }
  | .tma => { s with timer := { s.timer with tma := v } }
  | .tac => { s with timer := { s.timer with tac := v.setWidth 3 } }
  | .irq => { s with irq := v.setWidth 5 }

/-- A read of a PPU register (R39 to R42). -/
def ppuRead (p : Ppu) : PpuReg → Byte
  | .lcdc => p.lcdc
  | .stat => statRead p
  | .scy => p.scy
  | .scx => p.scx
  | .ly => p.ly
  | .lyc => p.lyc
  | .bgp => p.bgp
  | .obp0 => p.obp0
  | .obp1 => p.obp1
  | .wy => p.wy
  | .wx => p.wx

/-- A write to a PPU register (R39 to R42): `STAT` stores bits 6:3 alone, `LY` nothing. -/
def ppuWrite (p : Ppu) (r : PpuReg) (v : Byte) : Ppu :=
  match r with
  | .lcdc => { p with lcdc := v }
  | .stat => { p with statEnables := v.extractLsb' 3 4 }
  | .scy => { p with scy := v }
  | .scx => { p with scx := v }
  | .ly => p
  | .lyc => { p with lyc := v }
  | .bgp => { p with bgp := v }
  | .obp0 => { p with obp0 := v }
  | .obp1 => { p with obp1 := v }
  | .wy => { p with wy := v }
  | .wx => { p with wx := v }

/-- Arm an OAM-DMA transfer from page `v` (R330). -/
def dmaStart (s : State) (v : Byte) : State := { s with dma := { active := true, sourcePage := v, index := 0 } }

/-! ### The two bus operations -/

/-- A read of a device (the read column of R63). -/
def deviceRead (s : State) : Device → Byte
  | .bootRom k =>
    match s.params.bootRom with
    | some image => Memory.read .bootRom image k
    | none => 0xFF
  | .cartRom a => cartRomRead s a
  | .vram k => Memory.read .vram s.mems.vram k
  | .cartRam k => if cartRamEnabled s then Memory.read .cartRam s.mems.cartRam k else 0xFF
  | .wram k => Memory.read .wram s.mems.wram k
  | .oam k => Memory.read .oam s.mems.oam k
  | .io r => ioRead s r
  | .dma => s.dma.sourcePage
  | .ppu r => ppuRead s.ppu r
  | .bootUnmap => 0xFF
  | .hram k => Memory.read .hram s.mems.hram k
  | .ie => s.ie.setWidth 8
  | .unmapped => 0xFF

/-- A write to a device (the write column of R63). The boot ROM drops writes (R64). -/
def deviceWrite (s : State) (dev : Device) (v : Byte) : State :=
  match dev with
  | .bootRom _ => s
  | .cartRom a => cartRomWrite s a v
  | .vram k => { s with mems := { s.mems with vram := Memory.write .vram s.mems.vram k v } }
  | .cartRam k =>
    if cartRamEnabled s then { s with mems := { s.mems with cartRam := Memory.write .cartRam s.mems.cartRam k v } } else s
  | .wram k => { s with mems := { s.mems with wram := Memory.write .wram s.mems.wram k v } }
  | .oam k => { s with mems := { s.mems with oam := Memory.write .oam s.mems.oam k v } }
  | .io r => ioWrite s r v
  | .dma => dmaStart s v
  | .ppu r => { s with ppu := ppuWrite s.ppu r v }
  | .bootUnmap => if v = 0 then s else { s with bootMapped := false }
  | .hram k => { s with mems := { s.mems with hram := Memory.write .hram s.mems.hram k v } }
  | .ie => { s with ie := v.setWidth 5 }
  | .unmapped => s

/-- `BusRead(addr)` (R61): no state changes. -/
def busRead (s : State) (addr : Word) : Byte := deviceRead s (deviceAt s.bootMapped addr)

/-- `BusWrite(addr, v)` (R62). -/
def busWrite (s : State) (addr : Word) (v : Byte) : State := deviceWrite s (deviceAt s.bootMapped addr) v

end Sys2Proof.Machine
end

