-- ==== Sys2Proof/Machine/Dma.lean ====
section
/-! DEFINITION. Sys2Proof/Machine/Dma.lean: the OAM-DMA step, sub-step 1 of every tick (61_timer_dma_joypad.md R331). -/

namespace Sys2Proof.Machine

/-- The source address of the byte an active transfer copies next (R331, R332). -/
def dmaSource (d : Dma) : Word := BitVec.ofNat 16 (d.sourcePage.toNat * 256 + d.index)

/-- The DMA registers after one byte has been copied (R331). -/
def dmaAdvance (d : Dma) : Dma :=
  { d with index := d.index + 1, active := if d.index + 1 = dmaLength then false else d.active }

/-- The DMA step (R331): while a transfer is active, one byte read through the bus is written straight into `OAM`. -/
def dmaStep (s : State) : State :=
  if s.dma.active then
    { s with
      mems := { s.mems with oam := Memory.write .oam s.mems.oam s.dma.index (busRead s (dmaSource s.dma)) }
      dma := dmaAdvance s.dma }
  else s

end Sys2Proof.Machine
end

