-- ==== Sys2Proof/Machine/Ppu.lean ====
section
/-! DEFINITION. Sys2Proof/Machine/Ppu.lean: the PPU step, sub-step 2 of every tick, with the sprite cache and the pixel
composition (62_ppu.md R352 to R384). The PPU reads `VRAM` and `OAM` straight, not through the bus (R78). -/

namespace Sys2Proof.Machine

/-! ### Tile data, tile maps, palettes -/

/-- The colour index of the pixel `k` from the left (0 to 7) of the line whose low and high plane bytes are `lo` and
`hi` (R353). -/
def colourIndex (lo hi : Byte) (k : Nat) : BitVec 2 :=
  BitVec.ofBool (hi.getLsbD (7 - k)) ++ BitVec.ofBool (lo.getLsbD (7 - k))

/-- The byte of `VRAM` at an offset. -/
def vramByte (m : Mems) (a : Nat) : Byte := Memory.read .vram m.vram a

/-- `TileLine(a)[k]` (R353). -/
def tilePixel (m : Mems) (a k : Nat) : BitVec 2 := colourIndex (vramByte m a) (vramByte m (a + 1)) k

/-- `TileLine(a)` (R353), leftmost first. -/
def tileLine (m : Mems) (a : Nat) : Vector (BitVec 2) 8 :=
  #v[tilePixel m a 0, tilePixel m a 1, tilePixel m a 2, tilePixel m a 3, tilePixel m a 4, tilePixel m a 5, tilePixel m a 6,
    tilePixel m a 7]

/-- `pix'[k] = pix[7 - k]` (R370). -/
def reversePixels (v : Vector (BitVec 2) 8) : Vector (BitVec 2) 8 :=
  #v[v[7], v[6], v[5], v[4], v[3], v[2], v[1], v[0]]

/-- Entry `i` of a palette register: bits `2i+1 : 2i` (R42). -/
def paletteShade (reg : Byte) (i : BitVec 2) : BitVec 2 := reg.extractLsb' (2 * i.toNat) 2

/-- `MapIndex(sel, x, y)` (R375): the colour index at a point of the tile map that `sel` selects, with the tile data
addressing of `LCDC[4]`. -/
def mapIndex (m : Mems) (lcdc : Byte) (sel : Bool) (x y : Nat) : BitVec 2 :=
  let base := if sel then 0x1C00 else 0x1800
  let idx := vramByte m (base + y / 8 * 32 + x / 8)
  let row := y % 8 * 2
  let a := if lcdc.getLsbD 4 then idx.toNat * 16 + row else (0x1000 + idx.toInt * 16 + row).toNat
  tilePixel m a (x % 8)

/-! ### Sprite cache -/

/-- The height of the sprites (R370): 16 if `LCDC[2]` is set, else 8. -/
def spriteHeight (lcdc : Byte) : Nat := if lcdc.getLsbD 2 then 16 else 8

/-- An intersecting OAM entry (R370): its bytes (R352) and the row of it that this scanline shows. -/
structure SpriteHit where
  x : Byte
  y : Byte
  tile : Byte
  attr : Byte
  row : Nat
  deriving DecidableEq, Repr

/-- The byte of `OAM` at an offset. -/
def oamByte (m : Mems) (k : Nat) : Byte := Memory.read .oam m.oam k

/-- The hit of OAM entry `i` on scanline `ly` (R352, R370): `row = LY + 16 - y`, kept when `0 <= row < height`. -/
def spriteHit (m : Mems) (lcdc ly : Byte) (i : Nat) : Option SpriteHit :=
  let y := oamByte m (4 * i)
  let row : Int := ly.toNat + 16 - y.toNat
  if 0 ≤ row ∧ row < spriteHeight lcdc then
    some
      { x := oamByte m (4 * i + 1), y := y, tile := oamByte m (4 * i + 2), attr := oamByte m (4 * i + 3),
        row := row.toNat }
  else none

/-- The first ten intersecting entries, in OAM order (R370, R371). -/
def spriteHits (m : Mems) (lcdc ly : Byte) : List SpriteHit :=
  ((List.range 40).filterMap (spriteHit m lcdc ly)).take 10

/-- Insert a hit before the first one with a larger `x`: a stable sort step (R370). -/
def insertByX (h : SpriteHit) : List SpriteHit → List SpriteHit
  | [] => [h]
  | g :: rest => if h.x.toNat ≤ g.x.toNat then h :: g :: rest else g :: insertByX h rest

/-- Sort by ascending `x`, equal `x` in OAM order (R370). -/
def sortByX : List SpriteHit → List SpriteHit
  | [] => []
  | h :: rest => insertByX h (sortByX rest)

/-- The cache entry of a hit (R370, R372): Y-flip by exclusive or with `height - 1`, the pattern line from base
`0x0000`, X-flip by reversal. -/
def spriteEntry (m : Mems) (lcdc : Byte) (h : SpriteHit) : Sprite :=
  let r := if h.attr.getLsbD 6 then h.row ^^^ (spriteHeight lcdc - 1) else h.row
  let a := (h.tile.toNat * 16 + r * 2) % 0x2000
  let line := tileLine m a
  { x := h.x.toNat - 8, y := h.y.toNat - 16, tile := h.tile, attr := h.attr,
    pix := if h.attr.getLsbD 5 then reversePixels line else line }

/-- `BuildSpriteCache()` (R370). -/
def buildSpriteCache (m : Mems) (p : Ppu) : List Sprite :=
  (sortByX (spriteHits m p.lcdc p.ly)).map (spriteEntry m p.lcdc)

/-! ### Pixel composition -/

/-- The colour index of a sprite at screen column `lx`, 0 where it does not cover the column (R380). -/
def spritePixel (lx : Nat) (sp : Sprite) : BitVec 2 :=
  let k : Int := lx - sp.x
  if 0 ≤ k ∧ k ≤ 7 then sp.pix.toList.getD k.toNat 0 else 0

/-- The winning sprite of a column: the first of the cache that covers it with a nonzero index (R374, R380). -/
def winningSprite (sprites : List Sprite) (lx : Nat) : Option Sprite := sprites.find? fun sp => spritePixel lx sp != 0

/-- `BgIndex()` (R375). -/
def bgIndex (m : Mems) (p : Ppu) (lx : Nat) : BitVec 2 :=
  mapIndex m p.lcdc (p.lcdc.getLsbD 3) ((lx + p.scx.toNat) % 256) ((p.ly.toNat + p.scy.toNat) % 256)

/-- `WinIndex()` (R376). -/
def winIndex (m : Mems) (p : Ppu) (lx : Nat) : BitVec 2 :=
  mapIndex m p.lcdc (p.lcdc.getLsbD 6) (lx + 7 - p.wx.toNat) (p.ly.toNat - p.wy.toNat)

/-- The window covers the pixel (R376). -/
def windowCovers (p : Ppu) (lx : Nat) : Bool :=
  p.lcdc.getLsbD 5 && decide (p.wy.toNat ≤ p.ly.toNat) && decide (p.wx.toNat ≤ lx + 7)

/-- The colour index and shade of the background and window at a column of this scanline (R374 to R376): `(0, 0)` where
neither is composed. -/
def backgroundPixel (m : Mems) (p : Ppu) (lx : Nat) : BitVec 2 × BitVec 2 :=
  if windowCovers p lx then (winIndex m p lx, paletteShade p.bgp (winIndex m p lx))
  else if p.lcdc.getLsbD 0 then (bgIndex m p lx, paletteShade p.bgp (bgIndex m p lx))
  else (0, 0)

/-- The object palette a sprite selects (R352): `attr[4]`. -/
def objectPalette (p : Ppu) (sp : Sprite) : Byte := if sp.attr.getLsbD 4 then p.obp1 else p.obp0

/-- The shade a pixel ends with (R374, R381): the winning sprite's, unless it has the priority bit and the background
colour index is nonzero. -/
def pixelShade (m : Mems) (p : Ppu) (lx : Nat) : BitVec 2 :=
  let bg := backgroundPixel m p lx
  if p.lcdc.getLsbD 1 then
    match winningSprite p.sprites lx with
    | some sp =>
      if sp.attr.getLsbD 7 && bg.1 != 0 then bg.2 else paletteShade (objectPalette p sp) (spritePixel lx sp)
    | none => bg.2
  else bg.2

/-- `DrawPixel(LX, LY)` (R374): the frame buffer after the pixel. -/
def drawPixel (m : Mems) (p : Ppu) : List (Nat × BitVec 32) :=
  putPixel p.fb (p.ly.toNat * screenWidth + p.lx) (shadeColour (pixelShade m p p.lx))

/-! ### Schedule -/

/-- `LineStart()` (R361). -/
def lineStart (m : Mems) (p : Ppu) : Ppu :=
  { p with mode := .oamScan, lx := 0, sprites := if p.lcdc.getLsbD 7 then buildSpriteCache m p else p.sprites }

/-- `DrawTick()` (R362). -/
def drawTick (m : Mems) (p : Ppu) : Ppu :=
  { p with mode := .draw, lx := p.lx + 1, fb := if p.lcdc.getLsbD 7 then drawPixel m p else p.fb }

/-- The first part of `PpuStep()` (R360): what the tick does before the counters move. On a visible line at most one of
the three events falls on a tick, since `h = 0`, `80 <= h < 240` and `h = 240` exclude each other. -/
def ppuEvent (m : Mems) (p : Ppu) : Ppu :=
  let h := p.ppuClock % ticksPerLine
  if p.ppuClock = vblankStart then { p with mode := .vblank }
  else if p.ppuClock < vblankStart then
    if h = 0 then lineStart m p
    else if 80 ≤ h ∧ h < 240 then drawTick m p
    else if h = 240 then { p with mode := .hblank }
    else p
  else p

/-- The last part of `PpuStep()` (R360, R365, R366): `ppu_clock` and `LY`. -/
def ppuAdvance (p : Ppu) : Ppu :=
  if p.ppuClock = lastTick then { p with ppuClock := 0, ly := 0 }
  else { p with ppuClock := p.ppuClock + 1, ly := if p.ppuClock % ticksPerLine = 455 then p.ly + 1 else p.ly }

/-- The requests the tick raises (R361, R364): LCD-STAT at the start of every line, V-blank at the start of line 144 if
the LCD is on. -/
def ppuRequests (p : Ppu) : BitVec 5 :=
  (if p.ppuClock % ticksPerLine = 0 then 0x02 else 0) |||
    (if p.ppuClock = vblankStart && p.lcdc.getLsbD 7 then 0x01 else 0)

/-- `PpuStep()` (R360). -/
def ppuStep (s : State) : State :=
  { s with ppu := ppuAdvance (ppuEvent s.mems s.ppu), irq := s.irq ||| ppuRequests s.ppu }

end Sys2Proof.Machine
end

