-- ==== Sys2Proof/Machine/Timer.lean ====
section
/-! DEFINITION. Sys2Proof/Machine/Timer.lean: the timer step, sub-step 4 of every tick (61_timer_dma_joypad.md R315 to
R317). -/

namespace Sys2Proof.Machine

/-- The ticks per `TIMA` increment that `TAC[1:0]` selects (R316). -/
def timerDivisor (tac : BitVec 3) : Nat :=
  match tac.toNat % 4 with
  | 0 => 1024
  | 1 => 16
  | 2 => 64
  | _ => 256

/-- `DIV` after part 1 of the timer step (R315), seen before this tick's clock increment. -/
def divStep (clock : Nat) (div : Byte) : Byte := if (clock + 1) % 256 = 0 then div + 1 else div

/-- `TIMA` counts in this tick (R316). -/
def timaCounts (clock : Nat) (tac : BitVec 3) : Bool :=
  tac.getLsbD 2 && decide ((clock + 1) % timerDivisor tac = 0)

/-- `TIMA` overflows in this tick (R317). -/
def timaOverflows (clock : Nat) (t : Timer) : Bool := timaCounts clock t.tac && decide (t.tima = 0xFF)

/-- `TIMA` after part 2 of the timer step (R316, R317): reloaded from `TMA` in the tick of the overflow. -/
def timaStep (clock : Nat) (t : Timer) : Byte :=
  if timaCounts clock t.tac then (if t.tima = 0xFF then t.tma else t.tima + 1) else t.tima

/-- The timer step (R315 to R317): parts 1 and 2, and the timer request in the tick of an overflow. -/
def timerStep (s : State) : State :=
  { s with
    timer := { s.timer with div := divStep s.clock s.timer.div, tima := timaStep s.clock s.timer }
    irq := if timaOverflows s.clock s.timer then s.irq ||| 0x04 else s.irq }

end Sys2Proof.Machine
end

