-- ==== Sys2Proof/Machine/Ops.lean ====
section
/-! DEFINITION. Sys2Proof/Machine/Ops.lean: the primitives of 00_scope.md section 5 (tick, machine cycle, memory access,
push, pop, raise) and the interrupts of 60_exceptions.md (pending, arbitration, entry, return). -/

namespace Sys2Proof.Machine

/-! ### Registers -/

/-- `PC <- v`. -/
def setPc (v : Word) (s : State) : State := { s with regs := { s.regs with pc := v } }

/-- `SP <- v`. -/
def setSp (v : Word) (s : State) : State := { s with regs := { s.regs with sp := v } }

/-- `IME <- v` (R25). -/
def setIme (v : Bool) (s : State) : State := { s with ctl := { s.ctl with ime := v } }

/-- `halt <- v` (R26). -/
def setHalt (v : Bool) (s : State) : State := { s with ctl := { s.ctl with halt := v } }

/-- The pair `HL` (R21). -/
def hlPair (s : State) : Word := mkWord s.regs.h s.regs.l

/-! ### Time -/

/-- The audio step, which does nothing (R9). -/
def audioStep (s : State) : State := s

/-- `clock <- clock + 1` (R9, R30). -/
def clockStep (s : State) : State := { s with clock := s.clock + 1 }

/-- `Tick()` (R9): DMA, PPU, audio, timer, clock, in this order. -/
def tick (s : State) : State := clockStep (timerStep (audioStep (ppuStep (dmaStep s))))

/-- `Cycle()` (R10): one machine cycle is four ticks. -/
def cycle (s : State) : State := tick (tick (tick (tick s)))

/-- `n` machine cycles with no bus access: `Internal()` `n` times (R14). -/
def cycles : Nat → State → State
  | 0, s => s
  | n + 1, s => cycles n (cycle s)

/-! ### Memory access -/

/-- A CPU read and what is done with the byte (R11): the access is performed first and the machine cycle follows it. -/
def withRead (addr : Word) (k : Byte → State → State) (s : State) : State := k (busRead s addr) (cycle s)

/-- `MemWrite(addr, 1, v)` (R11): the access is performed first and the machine cycle follows it. -/
def memWrite (addr : Word) (v : Byte) (s : State) : State := cycle (busWrite s addr v)

/-- `MemWrite(addr, 2, v)` (R12): low byte first. -/
def memWrite16 (addr v : Word) (s : State) : State := memWrite (addr + 1) (hiByte v) (memWrite addr (loByte v) s)

/-- The byte `Fetch8()` answers (R13). -/
def fetchedByte (s : State) : Byte := busRead s s.regs.pc

/-- The state after `Fetch8()` (R13): one machine cycle later, `PC` one further. -/
def afterFetch (s : State) : State := setPc (s.regs.pc + 1) (cycle s)

/-- One half of a push (R15): `SP <- SP - 1; MemWrite(SP, 1, v)`. -/
def pushByte (v : Byte) (s : State) : State := memWrite (s.regs.sp - 1) v (setSp (s.regs.sp - 1) s)

/-- `Push16(v)` (R15): high byte first. -/
def push16 (v : Word) (s : State) : State := pushByte (loByte v) (pushByte (hiByte v) s)

/-- One half of a pop (R15) and what is done with the byte: `MemRead(SP, 1); SP <- SP + 1`. -/
def withPopByte (k : Byte → State → State) (s : State) : State :=
  withRead s.regs.sp (fun v t => k v (setSp (t.regs.sp + 1) t)) s

/-- `Pop16()` (R15) and what is done with the word: low byte first. -/
def withPop16 (k : Word → State → State) (s : State) : State :=
  withPopByte (fun lo => withPopByte (fun hi => k (mkWord hi lo))) s

/-! ### Faults -/

/-- `raise UndefinedOpcode(op, PC - 1)` (R16, R267, R281): `pc` is the address the opcode was fetched from. -/
def raiseUndefinedOpcode (op : Byte) (s : State) : State :=
  { s with ctl := { s.ctl with status := .undefinedOpcode op (s.regs.pc - 1) } }

/-- `stop <- 1; raise StopExecuted` (R16, R263, R282). -/
def raiseStopExecuted (s : State) : State := { s with ctl := { s.ctl with stop := true, status := .stopExecuted } }

/-! ### Interrupts -/

/-- `IRQ & IE & 0x1F` (R290); both registers are held as five bits. -/
def pendingInterrupts (s : State) : BitVec 5 := s.irq &&& s.ie

/-- Some request is both pending and enabled (R286). -/
def interruptPending (s : State) : Bool := pendingInterrupts s != 0

/-- Arbitration (R292): the least `i` in 0 to 4 whose bit is set. -/
def lowestPending (pending : BitVec 5) : Nat :=
  if pending.getLsbD 0 then 0
  else if pending.getLsbD 1 then 1
  else if pending.getLsbD 2 then 2
  else if pending.getLsbD 3 then 3
  else 4

/-- `IRQ <- IRQ & ~(1 << n)` (R293). -/
def acknowledge (n : Nat) (s : State) : State := { s with irq := s.irq &&& ~~~((1 : BitVec 5) <<< n) }

/-- Taking an interrupt (R293): the request of the lowest pending source is cleared, `IME` is cleared, the internal
cycles pass, `PC` is pushed, and control goes to the source's vector. -/
def interruptEntry (s : State) : State :=
  let n := lowestPending (pendingInterrupts s)
  let entered := cycles s.params.intEntryInternalMc (setIme false (acknowledge n s))
  setPc (interruptVector n) (push16 entered.regs.pc entered)

/-- Returning from an interrupt (R249, R294): `PC <- Pop16(); Internal(); IME <- 1`; nothing else was saved. -/
def interruptReturn (s : State) : State := withPop16 (fun v t => setIme true (cycle (setPc v t))) s

/-- The first line of the CPU step (R290, R291): `halt` is cleared when an enabled request is pending, whatever `IME`
is. -/
def wake (s : State) : State := if interruptPending s then setHalt false s else s

end Sys2Proof.Machine
end

