-- ==== Sys2Proof/Machine/Flags.lean ====
section
/-! DEFINITION. Sys2Proof/Machine/Flags.lean: the flags (10_state.md R22, R46) and every flag computation of the
instruction rules, beside the result it goes with. Sums and differences are taken on unbounded integers and narrowed at
the end (R6). -/

namespace Sys2Proof.Machine

/-- The four flags (R22): bits 7, 6, 5, 4 of `F`. -/
structure Flags where
  z : Bool
  n : Bool
  h : Bool
  c : Bool
  deriving DecidableEq, Repr

/-- The flags that a value of `F` holds. -/
def flagsOf (f : Byte) : Flags := { z := f.getLsbD 7, n := f.getLsbD 6, h := f.getLsbD 5, c := f.getLsbD 4 }

/-- `F` with bits 7:4 written; bits 3:0 are not written (R189). -/
def putFlags (fl : Flags) (f : Byte) : Byte :=
  BitVec.ofBool fl.z ++ BitVec.ofBool fl.n ++ BitVec.ofBool fl.h ++ BitVec.ofBool fl.c ++ f.extractLsb' 0 4

/-- The flags of the state. -/
def State.flags (s : State) : Flags := flagsOf s.regs.f

/-- Write all four flags. -/
def setFlags (fl : Flags) (s : State) : State := { s with regs := { s.regs with f := putFlags fl s.regs.f } }

/-- `cond(cc)` (R17). -/
def condHolds (cc : Cond) (s : State) : Bool :=
  match cc with
  | .nz => !s.flags.z
  | .z => s.flags.z
  | .nc => !s.flags.c
  | .c => s.flags.c

/-- A flag as a number, for the carry in. -/
def carryIn (c : Bool) : Nat := if c then 1 else 0

/-! ### The accumulator operations (R171 to R178)

Each gives the value of `A` and the flags after it. -/

/-- `A + v + c` (R171 with `c = 0`, R172 with the carry flag). -/
def addResult (a v : Byte) (c : Bool) : Byte × Flags :=
  let sum := a.toNat + v.toNat + carryIn c
  let r := BitVec.ofNat 8 sum
  (r, { z := decide (r = 0), n := false, h := decide (lowNibble a + lowNibble v + carryIn c > 0x0F),
        c := decide (sum > 0xFF) })

/-- `A - v - c` (R173 with `c = 0`, R174 with the carry flag). -/
def subResult (a v : Byte) (c : Bool) : Byte × Flags :=
  let r := a - v - BitVec.ofNat 8 (carryIn c)
  (r, { z := decide (r = 0), n := true, h := decide (lowNibble a < lowNibble v + carryIn c),
        c := decide (a.toNat < v.toNat + carryIn c) })

/-- The flags of `XOR` and `OR` (R176, R177), and with `h` set those of `AND` (R175). -/
def logicResult (r : Byte) (h : Bool) : Byte × Flags := (r, { z := decide (r = 0), n := false, h := h, c := false })

/-- Operation `alu[y]` on `A` and `v` with the carry flag `c` (R171 to R178): the value `A` is left with, and the
flags. `CP` leaves `A` (R178). -/
def aluResult (op : AluOp) (a v : Byte) (c : Bool) : Byte × Flags :=
  match op with
  | .add => addResult a v false
  | .adc => addResult a v c
  | .sub => subResult a v false
  | .sbc => subResult a v c
  | .and => logicResult (a &&& v) true
  | .xor => logicResult (a ^^^ v) false
  | .or => logicResult (a ||| v) false
  | .cp => (a, (subResult a v false).2)

/-! ### Increment and decrement (R180 to R183) -/

/-- `v + 1` and the flags after it, the carry unchanged (R180, R181). -/
def incResult (v : Byte) (fl : Flags) : Byte × Flags :=
  (v + 1, { z := decide (v + 1 = 0), n := false, h := decide (lowNibble v = 0x0F), c := fl.c })

/-- `v - 1` and the flags after it, the carry unchanged (R182, R183). -/
def decResult (v : Byte) (fl : Flags) : Byte × Flags :=
  (v - 1, { z := decide (v - 1 = 0), n := true, h := decide (lowNibble v = 0x00), c := fl.c })

/-! ### Adjustments (R185 to R188) -/

/-- The correction of `DAA` (R185). -/
def daaCorrection (a : Byte) (fl : Flags) : Nat :=
  if fl.n then (if fl.c then 0x60 else 0) + (if fl.h then 0x06 else 0)
  else (if fl.c || decide (a.toNat > 0x99) then 0x60 else 0) + (if fl.h || decide (lowNibble a > 0x09) then 0x06 else 0)

/-- `DAA` (R185): `N` unchanged, both tests on the original `A`. -/
def daaResult (a : Byte) (fl : Flags) : Byte × Flags :=
  let corr := daaCorrection a fl
  let r := if fl.n then a - BitVec.ofNat 8 corr else a + BitVec.ofNat 8 corr
  (r, { z := decide (r = 0), n := fl.n, h := false, c := decide (corr ≥ 0x60) })

/-! ### 16-bit arithmetic (R163, R200, R203) -/

/-- `HL + v` and the flags after it, `Z` unchanged (R200). -/
def addHLResult (hl v : Word) (fl : Flags) : Word × Flags :=
  (hl + v, { z := fl.z, n := false, h := decide (hl.toNat % 0x1000 + v.toNat % 0x1000 > 0x0FFF),
             c := decide (hl.toNat + v.toNat > 0xFFFF) })

/-- `SP + e` and the flags of the unsigned addition of its low byte and the byte `e` (R163, R203). -/
def addSPResult (sp : Word) (e : Byte) : Word × Flags :=
  (sp + sext16 e, { z := false, n := false, h := decide (sp.toNat % 16 + lowNibble e > 0x0F),
                    c := decide (sp.toNat % 256 + e.toNat > 0xFF) })

/-! ### Rotates, shifts and bit operations (R210 to R230) -/

/-- The value of a rotate or shift of `v` with the carry flag `c`, and the new carry (R220 to R227). -/
def rotValue (op : RotOp) (v : Byte) (c : Bool) : Byte × Bool :=
  match op with
  | .rlc => (v <<< 1 ||| (if v.getLsbD 7 then 0x01 else 0), v.getLsbD 7)
  | .rrc => (v >>> 1 ||| (if v.getLsbD 0 then 0x80 else 0), v.getLsbD 0)
  | .rl => (v <<< 1 ||| (if c then 0x01 else 0), v.getLsbD 7)
  | .rr => (v >>> 1 ||| (if c then 0x80 else 0), v.getLsbD 0)
  | .sla => (v <<< 1, v.getLsbD 7)
  | .sra => (v >>> 1 ||| v &&& 0x80, v.getLsbD 0)
  | .swap => ((v &&& 0x0F) <<< 4 ||| v >>> 4, false)
  | .srl => (v >>> 1, v.getLsbD 0)

/-- A `CB` rotate or shift (R220 to R227): `Z` from the result. -/
def rotResult (op : RotOp) (v : Byte) (c : Bool) : Byte × Flags :=
  let r := rotValue op v c
  (r.1, { z := decide (r.1 = 0), n := false, h := false, c := r.2 })

/-- An accumulator rotate (R210 to R213): `Z` cleared whatever the result. -/
def rotAResult (op : RotOp) (v : Byte) (c : Bool) : Byte × Flags :=
  let r := rotValue op v c
  (r.1, { z := false, n := false, h := false, c := r.2 })

/-- The flags of `BIT b` on `v` (R228), the carry unchanged. -/
def bitFlags (b : Fin 8) (v : Byte) (fl : Flags) : Flags := { z := !v.getLsbD b.val, n := false, h := true, c := fl.c }

end Sys2Proof.Machine
end

