-- ==== Sys2Proof/Machine/Operands.lean ====
section
/-! DEFINITION. Sys2Proof/Machine/Operands.lean: reading and writing every operand form (30_encoding.md R103 to R105, 10_state.md
R21). -/

namespace Sys2Proof.Machine

/-- `r[i]` for the register entries of table `r` (R104). -/
def getReg (r : Reg8) (s : State) : Byte :=
  match r with
  | .b => s.regs.b
  | .c => s.regs.c
  | .d => s.regs.d
  | .e => s.regs.e
  | .h => s.regs.h
  | .l => s.regs.l
  | .a => s.regs.a

/-- `r[i] <- v` for the register entries of table `r` (R104). -/
def setReg (r : Reg8) (v : Byte) (s : State) : State :=
  match r with
  | .b => { s with regs := { s.regs with b := v } }
  | .c => { s with regs := { s.regs with c := v } }
  | .d => { s with regs := { s.regs with d := v } }
  | .e => { s with regs := { s.regs with e := v } }
  | .h => { s with regs := { s.regs with h := v } }
  | .l => { s with regs := { s.regs with l := v } }
  | .a => { s with regs := { s.regs with a := v } }

/-- `rp[p]` (R105): the first-named register is the high byte (R21). -/
def getPair (p : Pair) (s : State) : Word :=
  match p with
  | .bc => mkWord s.regs.b s.regs.c
  | .de => mkWord s.regs.d s.regs.e
  | .hl => hlPair s
  | .sp => s.regs.sp

/-- `rp[p] <- v` (R105): writing a pair writes both halves (R21). -/
def setPair (p : Pair) (v : Word) (s : State) : State :=
  match p with
  | .bc => { s with regs := { s.regs with b := hiByte v, c := loByte v } }
  | .de => { s with regs := { s.regs with d := hiByte v, e := loByte v } }
  | .hl => { s with regs := { s.regs with h := hiByte v, l := loByte v } }
  | .sp => setSp v s

/-- `rp2[p]` (R105). -/
def getStackPair (p : StackPair) (s : State) : Word :=
  match p with
  | .bc => getPair .bc s
  | .de => getPair .de s
  | .hl => getPair .hl s
  | .af => mkWord s.regs.a s.regs.f

/-- `rp2[p] <- v` (R105): writing `AF` keeps the low four bits of `F` zero (R21, R166). -/
def setStackPair (p : StackPair) (v : Word) (s : State) : State :=
  match p with
  | .bc => setPair .bc v s
  | .de => setPair .de v s
  | .hl => setPair .hl v s
  | .af => { s with regs := { s.regs with a := hiByte v, f := loByte v &&& 0xF0 } }

/-- Read an operand of table `r` and go on with the byte (R104): `(HL)` is one CPU read. -/
def withOperand (o : Operand) (k : Byte → State → State) (s : State) : State :=
  match o with
  | .reg r => k (getReg r s) s
  | .atHL => withRead (hlPair s) k s

/-- Write an operand of table `r` (R104): `(HL)` is one CPU write. -/
def putOperand (o : Operand) (v : Byte) (s : State) : State :=
  match o with
  | .reg r => setReg r v s
  | .atHL => memWrite (hlPair s) v s

/-- The address `0xFF00 + n` (R103). -/
def highPage (n : Byte) : Word := 0xFF00 + n.setWidth 16

/-- Write `A` and all four flags. -/
def setAF (r : Byte × Flags) (s : State) : State := setFlags r.2 (setReg .a r.1 s)

end Sys2Proof.Machine
end

