-- ==== Sys2Proof/Machine/Alu16.lean ====
section
/-! DEFINITION. Sys2Proof/Machine/Alu16.lean: 16-bit arithmetic (43_alu16.md R200 to R204). -/

namespace Sys2Proof.Machine

/-- `ADD HL,rr` (R200): both operands are read before `HL` is written. -/
def addHLPair (p : Pair) (s : State) : State :=
  let r := addHLResult (hlPair s) (getPair p s) s.flags
  cycle (setFlags r.2 (setPair .hl r.1 s))

/-- `INC rr` (R201). -/
def incPair (p : Pair) (s : State) : State := cycle (setPair p (getPair p s + 1) s)

/-- `DEC rr` (R202). -/
def decPair (p : Pair) (s : State) : State := cycle (setPair p (getPair p s - 1) s)

/-- `ADD SP,e` (R203). -/
def addSPE (e : Byte) (s : State) : State :=
  let r := addSPResult s.regs.sp e
  cycle (cycle (setFlags r.2 (setSp r.1 s)))

/-! ### The meanings, one per constructor -/

/-- `INC BC` (R201). -/
def execIncBC (s : State) : Result := .next (incPair .bc s)

/-- `ADD HL,BC` (R200). -/
def execAddHLBC (s : State) : Result := .next (addHLPair .bc s)

/-- `DEC BC` (R202). -/
def execDecBC (s : State) : Result := .next (decPair .bc s)

/-- `INC DE` (R201). -/
def execIncDE (s : State) : Result := .next (incPair .de s)

/-- `ADD HL,DE` (R200). -/
def execAddHLDE (s : State) : Result := .next (addHLPair .de s)

/-- `DEC DE` (R202). -/
def execDecDE (s : State) : Result := .next (decPair .de s)

/-- `INC HL` (R201). -/
def execIncHL (s : State) : Result := .next (incPair .hl s)

/-- `ADD HL,HL` (R200). -/
def execAddHLHL (s : State) : Result := .next (addHLPair .hl s)

/-- `DEC HL` (R202). -/
def execDecHL (s : State) : Result := .next (decPair .hl s)

/-- `INC SP` (R201). -/
def execIncSP (s : State) : Result := .next (incPair .sp s)

/-- `ADD HL,SP` (R200). -/
def execAddHLSP (s : State) : Result := .next (addHLPair .sp s)

/-- `DEC SP` (R202). -/
def execDecSP (s : State) : Result := .next (decPair .sp s)

/-- `ADD SP,e` (R203). -/
def execAddSPE (e : Byte) (s : State) : Result := .next (addSPE e s)

end Sys2Proof.Machine
end

