-- ==== Sys2Proof/Machine/Alu8.lean ====
section
/-! DEFINITION. Sys2Proof/Machine/Alu8.lean: 8-bit arithmetic and logic (42_alu8.md R170 to R190). -/

namespace Sys2Proof.Machine

/-- `alu[y] A,r` and `alu[y] A,(HL)` (R170 to R178). -/
def aluOperand (op : AluOp) (o : Operand) (s : State) : State :=
  withOperand o (fun v t => setAF (aluResult op t.regs.a v t.flags.c) t) s

/-- `alu[y] A,n` (R170 to R178). -/
def aluImmediate (op : AluOp) (n : Byte) (s : State) : State := setAF (aluResult op s.regs.a n s.flags.c) s

/-- `INC r` (R180) and `INC (HL)` (R181). -/
def incOperand (o : Operand) (s : State) : State :=
  withOperand o (fun v t => putOperand o (incResult v t.flags).1 (setFlags (incResult v t.flags).2 t)) s

/-- `DEC r` (R182) and `DEC (HL)` (R183). -/
def decOperand (o : Operand) (s : State) : State :=
  withOperand o (fun v t => putOperand o (decResult v t.flags).1 (setFlags (decResult v t.flags).2 t)) s

/-- `DAA` (R185). -/
def decimalAdjust (s : State) : State := setAF (daaResult s.regs.a s.flags) s

/-- `CPL` (R186). -/
def complementA (s : State) : State := setAF (~~~s.regs.a, { s.flags with n := true, h := true }) s

/-- `SCF` (R187). -/
def setCarry (s : State) : State := setFlags { s.flags with n := false, h := false, c := true } s

/-- `CCF` (R188). -/
def complementCarry (s : State) : State := setFlags { s.flags with n := false, h := false, c := !s.flags.c } s

/-! ### The meanings, one per constructor -/

/-- `INC B` (R180). -/
def execIncB (s : State) : Result := .next (incOperand (.reg .b) s)

/-- `DEC B` (R182). -/
def execDecB (s : State) : Result := .next (decOperand (.reg .b) s)

/-- `INC C` (R180). -/
def execIncC (s : State) : Result := .next (incOperand (.reg .c) s)

/-- `DEC C` (R182). -/
def execDecC (s : State) : Result := .next (decOperand (.reg .c) s)

/-- `INC D` (R180). -/
def execIncD (s : State) : Result := .next (incOperand (.reg .d) s)

/-- `DEC D` (R182). -/
def execDecD (s : State) : Result := .next (decOperand (.reg .d) s)

/-- `INC E` (R180). -/
def execIncE (s : State) : Result := .next (incOperand (.reg .e) s)

/-- `DEC E` (R182). -/
def execDecE (s : State) : Result := .next (decOperand (.reg .e) s)

/-- `INC H` (R180). -/
def execIncH (s : State) : Result := .next (incOperand (.reg .h) s)

/-- `DEC H` (R182). -/
def execDecH (s : State) : Result := .next (decOperand (.reg .h) s)

/-- `DAA` (R185). -/
def execDaa (s : State) : Result := .next (decimalAdjust s)

/-- `INC L` (R180). -/
def execIncL (s : State) : Result := .next (incOperand (.reg .l) s)

/-- `DEC L` (R182). -/
def execDecL (s : State) : Result := .next (decOperand (.reg .l) s)

/-- `CPL` (R186). -/
def execCpl (s : State) : Result := .next (complementA s)

/-- `INC (HL)` (R181). -/
def execIncAtHL (s : State) : Result := .next (incOperand .atHL s)

/-- `DEC (HL)` (R183). -/
def execDecAtHL (s : State) : Result := .next (decOperand .atHL s)

/-- `SCF` (R187). -/
def execScf (s : State) : Result := .next (setCarry s)

/-- `INC A` (R180). -/
def execIncA (s : State) : Result := .next (incOperand (.reg .a) s)

/-- `DEC A` (R182). -/
def execDecA (s : State) : Result := .next (decOperand (.reg .a) s)

/-- `CCF` (R188). -/
def execCcf (s : State) : Result := .next (complementCarry s)

/-- `ADD A,B` (R171). -/
def execAddAB (s : State) : Result := .next (aluOperand .add (.reg .b) s)

/-- `ADD A,C` (R171). -/
def execAddAC (s : State) : Result := .next (aluOperand .add (.reg .c) s)

/-- `ADD A,D` (R171). -/
def execAddAD (s : State) : Result := .next (aluOperand .add (.reg .d) s)

/-- `ADD A,E` (R171). -/
def execAddAE (s : State) : Result := .next (aluOperand .add (.reg .e) s)

/-- `ADD A,H` (R171). -/
def execAddAH (s : State) : Result := .next (aluOperand .add (.reg .h) s)

/-- `ADD A,L` (R171). -/
def execAddAL (s : State) : Result := .next (aluOperand .add (.reg .l) s)

/-- `ADD A,(HL)` (R171). -/
def execAddAAtHL (s : State) : Result := .next (aluOperand .add .atHL s)

/-- `ADD A,A` (R171). -/
def execAddAA (s : State) : Result := .next (aluOperand .add (.reg .a) s)

/-- `ADC A,B` (R172). -/
def execAdcAB (s : State) : Result := .next (aluOperand .adc (.reg .b) s)

/-- `ADC A,C` (R172). -/
def execAdcAC (s : State) : Result := .next (aluOperand .adc (.reg .c) s)

/-- `ADC A,D` (R172). -/
def execAdcAD (s : State) : Result := .next (aluOperand .adc (.reg .d) s)

/-- `ADC A,E` (R172). -/
def execAdcAE (s : State) : Result := .next (aluOperand .adc (.reg .e) s)

/-- `ADC A,H` (R172). -/
def execAdcAH (s : State) : Result := .next (aluOperand .adc (.reg .h) s)

/-- `ADC A,L` (R172). -/
def execAdcAL (s : State) : Result := .next (aluOperand .adc (.reg .l) s)

/-- `ADC A,(HL)` (R172). -/
def execAdcAAtHL (s : State) : Result := .next (aluOperand .adc .atHL s)

/-- `ADC A,A` (R172). -/
def execAdcAA (s : State) : Result := .next (aluOperand .adc (.reg .a) s)

/-- `SUB B` (R173). -/
def execSubB (s : State) : Result := .next (aluOperand .sub (.reg .b) s)

/-- `SUB C` (R173). -/
def execSubC (s : State) : Result := .next (aluOperand .sub (.reg .c) s)

/-- `SUB D` (R173). -/
def execSubD (s : State) : Result := .next (aluOperand .sub (.reg .d) s)

/-- `SUB E` (R173). -/
def execSubE (s : State) : Result := .next (aluOperand .sub (.reg .e) s)

/-- `SUB H` (R173). -/
def execSubH (s : State) : Result := .next (aluOperand .sub (.reg .h) s)

/-- `SUB L` (R173). -/
def execSubL (s : State) : Result := .next (aluOperand .sub (.reg .l) s)

/-- `SUB (HL)` (R173). -/
def execSubAtHL (s : State) : Result := .next (aluOperand .sub .atHL s)

/-- `SUB A` (R173). -/
def execSubA (s : State) : Result := .next (aluOperand .sub (.reg .a) s)

/-- `SBC A,B` (R174). -/
def execSbcAB (s : State) : Result := .next (aluOperand .sbc (.reg .b) s)

/-- `SBC A,C` (R174). -/
def execSbcAC (s : State) : Result := .next (aluOperand .sbc (.reg .c) s)

/-- `SBC A,D` (R174). -/
def execSbcAD (s : State) : Result := .next (aluOperand .sbc (.reg .d) s)

/-- `SBC A,E` (R174). -/
def execSbcAE (s : State) : Result := .next (aluOperand .sbc (.reg .e) s)

/-- `SBC A,H` (R174). -/
def execSbcAH (s : State) : Result := .next (aluOperand .sbc (.reg .h) s)

/-- `SBC A,L` (R174). -/
def execSbcAL (s : State) : Result := .next (aluOperand .sbc (.reg .l) s)

/-- `SBC A,(HL)` (R174). -/
def execSbcAAtHL (s : State) : Result := .next (aluOperand .sbc .atHL s)

/-- `SBC A,A` (R174). -/
def execSbcAA (s : State) : Result := .next (aluOperand .sbc (.reg .a) s)

/-- `AND B` (R175). -/
def execAndB (s : State) : Result := .next (aluOperand .and (.reg .b) s)

/-- `AND C` (R175). -/
def execAndC (s : State) : Result := .next (aluOperand .and (.reg .c) s)

/-- `AND D` (R175). -/
def execAndD (s : State) : Result := .next (aluOperand .and (.reg .d) s)

/-- `AND E` (R175). -/
def execAndE (s : State) : Result := .next (aluOperand .and (.reg .e) s)

/-- `AND H` (R175). -/
def execAndH (s : State) : Result := .next (aluOperand .and (.reg .h) s)

/-- `AND L` (R175). -/
def execAndL (s : State) : Result := .next (aluOperand .and (.reg .l) s)

/-- `AND (HL)` (R175). -/
def execAndAtHL (s : State) : Result := .next (aluOperand .and .atHL s)

/-- `AND A` (R175). -/
def execAndA (s : State) : Result := .next (aluOperand .and (.reg .a) s)

/-- `XOR B` (R176). -/
def execXorB (s : State) : Result := .next (aluOperand .xor (.reg .b) s)

/-- `XOR C` (R176). -/
def execXorC (s : State) : Result := .next (aluOperand .xor (.reg .c) s)

/-- `XOR D` (R176). -/
def execXorD (s : State) : Result := .next (aluOperand .xor (.reg .d) s)

/-- `XOR E` (R176). -/
def execXorE (s : State) : Result := .next (aluOperand .xor (.reg .e) s)

/-- `XOR H` (R176). -/
def execXorH (s : State) : Result := .next (aluOperand .xor (.reg .h) s)

/-- `XOR L` (R176). -/
def execXorL (s : State) : Result := .next (aluOperand .xor (.reg .l) s)

/-- `XOR (HL)` (R176). -/
def execXorAtHL (s : State) : Result := .next (aluOperand .xor .atHL s)

/-- `XOR A` (R176). -/
def execXorA (s : State) : Result := .next (aluOperand .xor (.reg .a) s)

/-- `OR B` (R177). -/
def execOrB (s : State) : Result := .next (aluOperand .or (.reg .b) s)

/-- `OR C` (R177). -/
def execOrC (s : State) : Result := .next (aluOperand .or (.reg .c) s)

/-- `OR D` (R177). -/
def execOrD (s : State) : Result := .next (aluOperand .or (.reg .d) s)

/-- `OR E` (R177). -/
def execOrE (s : State) : Result := .next (aluOperand .or (.reg .e) s)

/-- `OR H` (R177). -/
def execOrH (s : State) : Result := .next (aluOperand .or (.reg .h) s)

/-- `OR L` (R177). -/
def execOrL (s : State) : Result := .next (aluOperand .or (.reg .l) s)

/-- `OR (HL)` (R177). -/
def execOrAtHL (s : State) : Result := .next (aluOperand .or .atHL s)

/-- `OR A` (R177). -/
def execOrA (s : State) : Result := .next (aluOperand .or (.reg .a) s)

/-- `CP B` (R178). -/
def execCpB (s : State) : Result := .next (aluOperand .cp (.reg .b) s)

/-- `CP C` (R178). -/
def execCpC (s : State) : Result := .next (aluOperand .cp (.reg .c) s)

/-- `CP D` (R178). -/
def execCpD (s : State) : Result := .next (aluOperand .cp (.reg .d) s)

/-- `CP E` (R178). -/
def execCpE (s : State) : Result := .next (aluOperand .cp (.reg .e) s)

/-- `CP H` (R178). -/
def execCpH (s : State) : Result := .next (aluOperand .cp (.reg .h) s)

/-- `CP L` (R178). -/
def execCpL (s : State) : Result := .next (aluOperand .cp (.reg .l) s)

/-- `CP (HL)` (R178). -/
def execCpAtHL (s : State) : Result := .next (aluOperand .cp .atHL s)

/-- `CP A` (R178). -/
def execCpA (s : State) : Result := .next (aluOperand .cp (.reg .a) s)

/-- `ADD A,n` (R171). -/
def execAddAN (n : Byte) (s : State) : Result := .next (aluImmediate .add n s)

/-- `ADC A,n` (R172). -/
def execAdcAN (n : Byte) (s : State) : Result := .next (aluImmediate .adc n s)

/-- `SUB n` (R173). -/
def execSubN (n : Byte) (s : State) : Result := .next (aluImmediate .sub n s)

/-- `SBC A,n` (R174). -/
def execSbcAN (n : Byte) (s : State) : Result := .next (aluImmediate .sbc n s)

/-- `AND n` (R175). -/
def execAndN (n : Byte) (s : State) : Result := .next (aluImmediate .and n s)

/-- `XOR n` (R176). -/
def execXorN (n : Byte) (s : State) : Result := .next (aluImmediate .xor n s)

/-- `OR n` (R177). -/
def execOrN (n : Byte) (s : State) : Result := .next (aluImmediate .or n s)

/-- `CP n` (R178). -/
def execCpN (n : Byte) (s : State) : Result := .next (aluImmediate .cp n s)

end Sys2Proof.Machine
end

