-- ==== Sys2Proof/Machine/Control.lean ====
section
/-! DEFINITION. Sys2Proof/Machine/Control.lean: jumps, calls and returns (45_control.md R240 to R251). -/

namespace Sys2Proof.Machine

/-- `JP nn` (R240). -/
def jump (nn : Word) (s : State) : State := cycle (setPc nn s)

/-- `JP cc,nn` (R241). -/
def jumpIf (cc : Cond) (nn : Word) (s : State) : State := if condHolds cc s then jump nn s else s

/-- `JP HL` (R242). -/
def jumpHL (s : State) : State := setPc (hlPair s) s

/-- `JR e` (R243): relative to the address of the byte after the instruction. -/
def jumpRelative (e : Byte) (s : State) : State := cycle (setPc (s.regs.pc + sext16 e) s)

/-- `JR cc,e` (R244). -/
def jumpRelativeIf (cc : Cond) (e : Byte) (s : State) : State := if condHolds cc s then jumpRelative e s else s

/-- `Internal(); Push16(PC); PC <- target` (R245, R250): the internal cycle precedes the two writes (D3). -/
def callTo (target : Word) (s : State) : State :=
  let t := cycle s
  setPc target (push16 t.regs.pc t)

/-- `CALL nn` (R245). -/
def call (nn : Word) (s : State) : State := callTo nn s

/-- `CALL cc,nn` (R246). -/
def callIf (cc : Cond) (nn : Word) (s : State) : State := if condHolds cc s then callTo nn s else s

/-- `RET` (R247). -/
def returnFromCall (s : State) : State := withPop16 (fun v t => cycle (setPc v t)) s

/-- `RET cc` (R248): the first internal cycle passes whatever the condition (D3). -/
def returnIf (cc : Cond) (s : State) : State :=
  let t := cycle s
  if condHolds cc t then returnFromCall t else t

/-- `RETI` (R249). -/
def returnFromInterrupt (s : State) : State := interruptReturn s

/-- `RST t` (R250): the target is `y * 8`. -/
def restart (y : Fin 8) (s : State) : State := callTo (BitVec.ofNat 16 (y.val * 8)) s

/-! ### The meanings, one per constructor -/

/-- `JR e` (R243). -/
def execJrE (e : Byte) (s : State) : Result := .next (jumpRelative e s)

/-- `JR NZ,e` (R244). -/
def execJrNZE (e : Byte) (s : State) : Result := .next (jumpRelativeIf .nz e s)

/-- `JR Z,e` (R244). -/
def execJrZE (e : Byte) (s : State) : Result := .next (jumpRelativeIf .z e s)

/-- `JR NC,e` (R244). -/
def execJrNCE (e : Byte) (s : State) : Result := .next (jumpRelativeIf .nc e s)

/-- `JR C,e` (R244). -/
def execJrCE (e : Byte) (s : State) : Result := .next (jumpRelativeIf .c e s)

/-- `RET NZ` (R248). -/
def execRetNZ (s : State) : Result := .next (returnIf .nz s)

/-- `JP NZ,nn` (R241). -/
def execJpNZNn (nn : Word) (s : State) : Result := .next (jumpIf .nz nn s)

/-- `JP nn` (R240). -/
def execJpNn (nn : Word) (s : State) : Result := .next (jump nn s)

/-- `CALL NZ,nn` (R246). -/
def execCallNZNn (nn : Word) (s : State) : Result := .next (callIf .nz nn s)

/-- `RST 0x00` (R250). -/
def execRst00 (s : State) : Result := .next (restart 0 s)

/-- `RET Z` (R248). -/
def execRetZ (s : State) : Result := .next (returnIf .z s)

/-- `RET` (R247). -/
def execRet (s : State) : Result := .next (returnFromCall s)

/-- `JP Z,nn` (R241). -/
def execJpZNn (nn : Word) (s : State) : Result := .next (jumpIf .z nn s)

/-- `CALL Z,nn` (R246). -/
def execCallZNn (nn : Word) (s : State) : Result := .next (callIf .z nn s)

/-- `CALL nn` (R245). -/
def execCallNn (nn : Word) (s : State) : Result := .next (call nn s)

/-- `RST 0x08` (R250). -/
def execRst08 (s : State) : Result := .next (restart 1 s)

/-- `RET NC` (R248). -/
def execRetNC (s : State) : Result := .next (returnIf .nc s)

/-- `JP NC,nn` (R241). -/
def execJpNCNn (nn : Word) (s : State) : Result := .next (jumpIf .nc nn s)

/-- `CALL NC,nn` (R246). -/
def execCallNCNn (nn : Word) (s : State) : Result := .next (callIf .nc nn s)

/-- `RST 0x10` (R250). -/
def execRst10 (s : State) : Result := .next (restart 2 s)

/-- `RET C` (R248). -/
def execRetC (s : State) : Result := .next (returnIf .c s)

/-- `RETI` (R249). -/
def execReti (s : State) : Result := .next (returnFromInterrupt s)

/-- `JP C,nn` (R241). -/
def execJpCNn (nn : Word) (s : State) : Result := .next (jumpIf .c nn s)

/-- `CALL C,nn` (R246). -/
def execCallCNn (nn : Word) (s : State) : Result := .next (callIf .c nn s)

/-- `RST 0x18` (R250). -/
def execRst18 (s : State) : Result := .next (restart 3 s)

/-- `RST 0x20` (R250). -/
def execRst20 (s : State) : Result := .next (restart 4 s)

/-- `JP HL` (R242). -/
def execJpHL (s : State) : Result := .next (jumpHL s)

/-- `RST 0x28` (R250). -/
def execRst28 (s : State) : Result := .next (restart 5 s)

/-- `RST 0x30` (R250). -/
def execRst30 (s : State) : Result := .next (restart 6 s)

/-- `RST 0x38` (R250). -/
def execRst38 (s : State) : Result := .next (restart 7 s)

end Sys2Proof.Machine
end

