-- ==== Sys2Proof/Machine/Load16.lean ====
section
/-! DEFINITION. Sys2Proof/Machine/Load16.lean: the 16-bit loads and stack operations (41_load16.md R160 to R166). -/

namespace Sys2Proof.Machine

/-- `LD rr,nn` (R160). -/
def ldPairNn (p : Pair) (nn : Word) (s : State) : State := setPair p nn s

/-- `LD (nn),SP` (R161). -/
def ldAtNnSP (nn : Word) (s : State) : State := memWrite16 nn s.regs.sp s

/-- `LD SP,HL` (R162). -/
def ldSPHL (s : State) : State := cycle (setSp (hlPair s) s)

/-- `LD HL,SP+e` (R163). -/
def ldHLSPE (e : Byte) (s : State) : State :=
  let r := addSPResult s.regs.sp e
  cycle (setFlags r.2 (setPair .hl r.1 s))

/-- `PUSH rr` (R164): the internal cycle precedes the two writes (D3). -/
def pushPair (p : StackPair) (s : State) : State :=
  let t := cycle s
  push16 (getStackPair p t) t

/-- `POP rr` (R165) and `POP AF` (R166). -/
def popPair (p : StackPair) (s : State) : State := withPop16 (setStackPair p) s

/-! ### The meanings, one per constructor -/

/-- `LD BC,nn` (R160). -/
def execLdBCNn (nn : Word) (s : State) : Result := .next (ldPairNn .bc nn s)

/-- `LD (nn),SP` (R161). -/
def execLdAtNnSP (nn : Word) (s : State) : Result := .next (ldAtNnSP nn s)

/-- `LD DE,nn` (R160). -/
def execLdDENn (nn : Word) (s : State) : Result := .next (ldPairNn .de nn s)

/-- `LD HL,nn` (R160). -/
def execLdHLNn (nn : Word) (s : State) : Result := .next (ldPairNn .hl nn s)

/-- `LD SP,nn` (R160). -/
def execLdSPNn (nn : Word) (s : State) : Result := .next (ldPairNn .sp nn s)

/-- `POP BC` (R165). -/
def execPopBC (s : State) : Result := .next (popPair .bc s)

/-- `PUSH BC` (R164). -/
def execPushBC (s : State) : Result := .next (pushPair .bc s)

/-- `POP DE` (R165). -/
def execPopDE (s : State) : Result := .next (popPair .de s)

/-- `PUSH DE` (R164). -/
def execPushDE (s : State) : Result := .next (pushPair .de s)

/-- `POP HL` (R165). -/
def execPopHL (s : State) : Result := .next (popPair .hl s)

/-- `PUSH HL` (R164). -/
def execPushHL (s : State) : Result := .next (pushPair .hl s)

/-- `POP AF` (R166). -/
def execPopAF (s : State) : Result := .next (popPair .af s)

/-- `PUSH AF` (R164). -/
def execPushAF (s : State) : Result := .next (pushPair .af s)

/-- `LD HL,SP+e` (R163). -/
def execLdHLSPE (e : Byte) (s : State) : Result := .next (ldHLSPE e s)

/-- `LD SP,HL` (R162). -/
def execLdSPHL (s : State) : Result := .next (ldSPHL s)

end Sys2Proof.Machine
end

