-- ==== Sys2Proof/Machine/Load8.lean ====
section
/-! DEFINITION. Sys2Proof/Machine/Load8.lean: the 8-bit loads (40_load8.md R130 to R149). A meaning starts from the state
after the instruction's bytes have been fetched: `PC` points past the instruction and the fetch cycles have passed
(R102). -/

namespace Sys2Proof.Machine

/-- `LD r,r'` (R131). -/
def ldRegReg (dst src : Reg8) (s : State) : State := setReg dst (getReg src s) s

/-- `LD r,n` (R132) and `LD (HL),n` (R135). -/
def ldOperandN (o : Operand) (n : Byte) (s : State) : State := putOperand o n s

/-- `LD r,(HL)` (R133). -/
def ldRegAtHL (dst : Reg8) (s : State) : State := withRead (hlPair s) (setReg dst) s

/-- `LD (HL),r` (R134). -/
def ldAtHLReg (src : Reg8) (s : State) : State := memWrite (hlPair s) (getReg src s) s

/-- `A <- MemRead(addr, 1)`. -/
def loadA (addr : Word) (s : State) : State := withRead addr (setReg .a) s

/-- `MemWrite(addr, 1, A)`. -/
def storeA (addr : Word) (s : State) : State := memWrite addr s.regs.a s

/-- `LD A,(BC)` (R136) and `LD A,(DE)` (R137). -/
def loadAAtPair (p : Pair) (s : State) : State := loadA (getPair p s) s

/-- `LD (BC),A` (R138) and `LD (DE),A` (R139). -/
def storeAAtPair (p : Pair) (s : State) : State := storeA (getPair p s) s

/-- `LD A,(nn)` (R140). -/
def loadAAbsolute (nn : Word) (s : State) : State := loadA nn s

/-- `LD (nn),A` (R141). -/
def storeAAbsolute (nn : Word) (s : State) : State := storeA nn s

/-- `LDH A,(n)` (R142). -/
def loadAHighPage (n : Byte) (s : State) : State := loadA (highPage n) s

/-- `LDH (n),A` (R143). -/
def storeAHighPage (n : Byte) (s : State) : State := storeA (highPage n) s

/-- `LD A,(C)` (R144). -/
def loadAAtC (s : State) : State := loadA (highPage s.regs.c) s

/-- `LD (C),A` (R145). -/
def storeAAtC (s : State) : State := storeA (highPage s.regs.c) s

/-- `HL <- HL + d` (R146 to R149), modulo 2^16 (R72). -/
def moveHL (d : Word) (s : State) : State := setPair .hl (hlPair s + d) s

/-- `LD (HL+),A` (R146). -/
def storeAAtHLInc (s : State) : State := moveHL 1 (storeA (hlPair s) s)

/-- `LD A,(HL+)` (R147). -/
def loadAAtHLInc (s : State) : State := moveHL 1 (loadA (hlPair s) s)

/-- `LD (HL-),A` (R148). -/
def storeAAtHLDec (s : State) : State := moveHL (-1) (storeA (hlPair s) s)

/-- `LD A,(HL-)` (R149). -/
def loadAAtHLDec (s : State) : State := moveHL (-1) (loadA (hlPair s) s)

/-! ### The meanings, one per constructor -/

/-- `LD (BC),A` (R138). -/
def execLdAtBCA (s : State) : Result := .next (storeAAtPair .bc s)

/-- `LD B,n` (R132). -/
def execLdBN (n : Byte) (s : State) : Result := .next (ldOperandN (.reg .b) n s)

/-- `LD A,(BC)` (R136). -/
def execLdAAtBC (s : State) : Result := .next (loadAAtPair .bc s)

/-- `LD C,n` (R132). -/
def execLdCN (n : Byte) (s : State) : Result := .next (ldOperandN (.reg .c) n s)

/-- `LD (DE),A` (R139). -/
def execLdAtDEA (s : State) : Result := .next (storeAAtPair .de s)

/-- `LD D,n` (R132). -/
def execLdDN (n : Byte) (s : State) : Result := .next (ldOperandN (.reg .d) n s)

/-- `LD A,(DE)` (R137). -/
def execLdAAtDE (s : State) : Result := .next (loadAAtPair .de s)

/-- `LD E,n` (R132). -/
def execLdEN (n : Byte) (s : State) : Result := .next (ldOperandN (.reg .e) n s)

/-- `LD (HL+),A` (R146). -/
def execLdAtHLIncA (s : State) : Result := .next (storeAAtHLInc s)

/-- `LD H,n` (R132). -/
def execLdHN (n : Byte) (s : State) : Result := .next (ldOperandN (.reg .h) n s)

/-- `LD A,(HL+)` (R147). -/
def execLdAAtHLInc (s : State) : Result := .next (loadAAtHLInc s)

/-- `LD L,n` (R132). -/
def execLdLN (n : Byte) (s : State) : Result := .next (ldOperandN (.reg .l) n s)

/-- `LD (HL-),A` (R148). -/
def execLdAtHLDecA (s : State) : Result := .next (storeAAtHLDec s)

/-- `LD (HL),n` (R135). -/
def execLdAtHLN (n : Byte) (s : State) : Result := .next (ldOperandN .atHL n s)

/-- `LD A,(HL-)` (R149). -/
def execLdAAtHLDec (s : State) : Result := .next (loadAAtHLDec s)

/-- `LD A,n` (R132). -/
def execLdAN (n : Byte) (s : State) : Result := .next (ldOperandN (.reg .a) n s)

/-- `LD B,B` (R131). -/
def execLdBB (s : State) : Result := .next (ldRegReg .b .b s)

/-- `LD B,C` (R131). -/
def execLdBC (s : State) : Result := .next (ldRegReg .b .c s)

/-- `LD B,D` (R131). -/
def execLdBD (s : State) : Result := .next (ldRegReg .b .d s)

/-- `LD B,E` (R131). -/
def execLdBE (s : State) : Result := .next (ldRegReg .b .e s)

/-- `LD B,H` (R131). -/
def execLdBH (s : State) : Result := .next (ldRegReg .b .h s)

/-- `LD B,L` (R131). -/
def execLdBL (s : State) : Result := .next (ldRegReg .b .l s)

/-- `LD B,(HL)` (R133). -/
def execLdBAtHL (s : State) : Result := .next (ldRegAtHL .b s)

/-- `LD B,A` (R131). -/
def execLdBA (s : State) : Result := .next (ldRegReg .b .a s)

/-- `LD C,B` (R131). -/
def execLdCB (s : State) : Result := .next (ldRegReg .c .b s)

/-- `LD C,C` (R131). -/
def execLdCC (s : State) : Result := .next (ldRegReg .c .c s)

/-- `LD C,D` (R131). -/
def execLdCD (s : State) : Result := .next (ldRegReg .c .d s)

/-- `LD C,E` (R131). -/
def execLdCE (s : State) : Result := .next (ldRegReg .c .e s)

/-- `LD C,H` (R131). -/
def execLdCH (s : State) : Result := .next (ldRegReg .c .h s)

/-- `LD C,L` (R131). -/
def execLdCL (s : State) : Result := .next (ldRegReg .c .l s)

/-- `LD C,(HL)` (R133). -/
def execLdCAtHL (s : State) : Result := .next (ldRegAtHL .c s)

/-- `LD C,A` (R131). -/
def execLdCA (s : State) : Result := .next (ldRegReg .c .a s)

/-- `LD D,B` (R131). -/
def execLdDB (s : State) : Result := .next (ldRegReg .d .b s)

/-- `LD D,C` (R131). -/
def execLdDC (s : State) : Result := .next (ldRegReg .d .c s)

/-- `LD D,D` (R131). -/
def execLdDD (s : State) : Result := .next (ldRegReg .d .d s)

/-- `LD D,E` (R131). -/
def execLdDE (s : State) : Result := .next (ldRegReg .d .e s)

/-- `LD D,H` (R131). -/
def execLdDH (s : State) : Result := .next (ldRegReg .d .h s)

/-- `LD D,L` (R131). -/
def execLdDL (s : State) : Result := .next (ldRegReg .d .l s)

/-- `LD D,(HL)` (R133). -/
def execLdDAtHL (s : State) : Result := .next (ldRegAtHL .d s)

/-- `LD D,A` (R131). -/
def execLdDA (s : State) : Result := .next (ldRegReg .d .a s)

/-- `LD E,B` (R131). -/
def execLdEB (s : State) : Result := .next (ldRegReg .e .b s)

/-- `LD E,C` (R131). -/
def execLdEC (s : State) : Result := .next (ldRegReg .e .c s)

/-- `LD E,D` (R131). -/
def execLdED (s : State) : Result := .next (ldRegReg .e .d s)

/-- `LD E,E` (R131). -/
def execLdEE (s : State) : Result := .next (ldRegReg .e .e s)

/-- `LD E,H` (R131). -/
def execLdEH (s : State) : Result := .next (ldRegReg .e .h s)

/-- `LD E,L` (R131). -/
def execLdEL (s : State) : Result := .next (ldRegReg .e .l s)

/-- `LD E,(HL)` (R133). -/
def execLdEAtHL (s : State) : Result := .next (ldRegAtHL .e s)

/-- `LD E,A` (R131). -/
def execLdEA (s : State) : Result := .next (ldRegReg .e .a s)

/-- `LD H,B` (R131). -/
def execLdHB (s : State) : Result := .next (ldRegReg .h .b s)

/-- `LD H,C` (R131). -/
def execLdHC (s : State) : Result := .next (ldRegReg .h .c s)

/-- `LD H,D` (R131). -/
def execLdHD (s : State) : Result := .next (ldRegReg .h .d s)

/-- `LD H,E` (R131). -/
def execLdHE (s : State) : Result := .next (ldRegReg .h .e s)

/-- `LD H,H` (R131). -/
def execLdHH (s : State) : Result := .next (ldRegReg .h .h s)

/-- `LD H,L` (R131). -/
def execLdHL (s : State) : Result := .next (ldRegReg .h .l s)

/-- `LD H,(HL)` (R133). -/
def execLdHAtHL (s : State) : Result := .next (ldRegAtHL .h s)

/-- `LD H,A` (R131). -/
def execLdHA (s : State) : Result := .next (ldRegReg .h .a s)

/-- `LD L,B` (R131). -/
def execLdLB (s : State) : Result := .next (ldRegReg .l .b s)

/-- `LD L,C` (R131). -/
def execLdLC (s : State) : Result := .next (ldRegReg .l .c s)

/-- `LD L,D` (R131). -/
def execLdLD (s : State) : Result := .next (ldRegReg .l .d s)

/-- `LD L,E` (R131). -/
def execLdLE (s : State) : Result := .next (ldRegReg .l .e s)

/-- `LD L,H` (R131). -/
def execLdLH (s : State) : Result := .next (ldRegReg .l .h s)

/-- `LD L,L` (R131). -/
def execLdLL (s : State) : Result := .next (ldRegReg .l .l s)

/-- `LD L,(HL)` (R133). -/
def execLdLAtHL (s : State) : Result := .next (ldRegAtHL .l s)

/-- `LD L,A` (R131). -/
def execLdLA (s : State) : Result := .next (ldRegReg .l .a s)

/-- `LD (HL),B` (R134). -/
def execLdAtHLB (s : State) : Result := .next (ldAtHLReg .b s)

/-- `LD (HL),C` (R134). -/
def execLdAtHLC (s : State) : Result := .next (ldAtHLReg .c s)

/-- `LD (HL),D` (R134). -/
def execLdAtHLD (s : State) : Result := .next (ldAtHLReg .d s)

/-- `LD (HL),E` (R134). -/
def execLdAtHLE (s : State) : Result := .next (ldAtHLReg .e s)

/-- `LD (HL),H` (R134). -/
def execLdAtHLH (s : State) : Result := .next (ldAtHLReg .h s)

/-- `LD (HL),L` (R134). -/
def execLdAtHLL (s : State) : Result := .next (ldAtHLReg .l s)

/-- `LD (HL),A` (R134). -/
def execLdAtHLA (s : State) : Result := .next (ldAtHLReg .a s)

/-- `LD A,B` (R131). -/
def execLdAB (s : State) : Result := .next (ldRegReg .a .b s)

/-- `LD A,C` (R131). -/
def execLdAC (s : State) : Result := .next (ldRegReg .a .c s)

/-- `LD A,D` (R131). -/
def execLdAD (s : State) : Result := .next (ldRegReg .a .d s)

/-- `LD A,E` (R131). -/
def execLdAE (s : State) : Result := .next (ldRegReg .a .e s)

/-- `LD A,H` (R131). -/
def execLdAH (s : State) : Result := .next (ldRegReg .a .h s)

/-- `LD A,L` (R131). -/
def execLdAL (s : State) : Result := .next (ldRegReg .a .l s)

/-- `LD A,(HL)` (R133). -/
def execLdAAtHL (s : State) : Result := .next (ldRegAtHL .a s)

/-- `LD A,A` (R131). -/
def execLdAA (s : State) : Result := .next (ldRegReg .a .a s)

/-- `LDH (n),A` (R143). -/
def execLdhAtNA (n : Byte) (s : State) : Result := .next (storeAHighPage n s)

/-- `LD (C),A` (R145). -/
def execLdAtCA (s : State) : Result := .next (storeAAtC s)

/-- `LD (nn),A` (R141). -/
def execLdAtNnA (nn : Word) (s : State) : Result := .next (storeAAbsolute nn s)

/-- `LDH A,(n)` (R142). -/
def execLdhAAtN (n : Byte) (s : State) : Result := .next (loadAHighPage n s)

/-- `LD A,(C)` (R144). -/
def execLdAAtC (s : State) : Result := .next (loadAAtC s)

/-- `LD A,(nn)` (R140). -/
def execLdAAtNn (nn : Word) (s : State) : Result := .next (loadAAbsolute nn s)

end Sys2Proof.Machine
end

