-- ==== Sys2Proof/Machine/Rotate.lean ====
section
/-! DEFINITION. Sys2Proof/Machine/Rotate.lean: rotates and shifts (44_rotate_bit.md R210 to R227). -/

namespace Sys2Proof.Machine

/-- `RLCA`, `RRCA`, `RLA`, `RRA` (R210 to R213). -/
def rotateA (op : RotOp) (s : State) : State := setAF (rotAResult op s.regs.a s.flags.c) s

/-- `rot[y] r[z]` (R219 to R227). -/
def rotateOperand (op : RotOp) (o : Operand) (s : State) : State :=
  withOperand o (fun v t => putOperand o (rotResult op v t.flags.c).1 (setFlags (rotResult op v t.flags.c).2 t)) s

/-! ### The meanings, one per constructor -/

/-- `RLCA` (R210). -/
def execRlca (s : State) : Result := .next (rotateA .rlc s)

/-- `RRCA` (R211). -/
def execRrca (s : State) : Result := .next (rotateA .rrc s)

/-- `RLA` (R212). -/
def execRla (s : State) : Result := .next (rotateA .rl s)

/-- `RRA` (R213). -/
def execRra (s : State) : Result := .next (rotateA .rr s)

/-- `RLC B` (R220). -/
def execRlcB (s : State) : Result := .next (rotateOperand .rlc (.reg .b) s)

/-- `RLC C` (R220). -/
def execRlcC (s : State) : Result := .next (rotateOperand .rlc (.reg .c) s)

/-- `RLC D` (R220). -/
def execRlcD (s : State) : Result := .next (rotateOperand .rlc (.reg .d) s)

/-- `RLC E` (R220). -/
def execRlcE (s : State) : Result := .next (rotateOperand .rlc (.reg .e) s)

/-- `RLC H` (R220). -/
def execRlcH (s : State) : Result := .next (rotateOperand .rlc (.reg .h) s)

/-- `RLC L` (R220). -/
def execRlcL (s : State) : Result := .next (rotateOperand .rlc (.reg .l) s)

/-- `RLC (HL)` (R220). -/
def execRlcAtHL (s : State) : Result := .next (rotateOperand .rlc .atHL s)

/-- `RLC A` (R220). -/
def execRlcA (s : State) : Result := .next (rotateOperand .rlc (.reg .a) s)

/-- `RRC B` (R221). -/
def execRrcB (s : State) : Result := .next (rotateOperand .rrc (.reg .b) s)

/-- `RRC C` (R221). -/
def execRrcC (s : State) : Result := .next (rotateOperand .rrc (.reg .c) s)

/-- `RRC D` (R221). -/
def execRrcD (s : State) : Result := .next (rotateOperand .rrc (.reg .d) s)

/-- `RRC E` (R221). -/
def execRrcE (s : State) : Result := .next (rotateOperand .rrc (.reg .e) s)

/-- `RRC H` (R221). -/
def execRrcH (s : State) : Result := .next (rotateOperand .rrc (.reg .h) s)

/-- `RRC L` (R221). -/
def execRrcL (s : State) : Result := .next (rotateOperand .rrc (.reg .l) s)

/-- `RRC (HL)` (R221). -/
def execRrcAtHL (s : State) : Result := .next (rotateOperand .rrc .atHL s)

/-- `RRC A` (R221). -/
def execRrcA (s : State) : Result := .next (rotateOperand .rrc (.reg .a) s)

/-- `RL B` (R222). -/
def execRlB (s : State) : Result := .next (rotateOperand .rl (.reg .b) s)

/-- `RL C` (R222). -/
def execRlC (s : State) : Result := .next (rotateOperand .rl (.reg .c) s)

/-- `RL D` (R222). -/
def execRlD (s : State) : Result := .next (rotateOperand .rl (.reg .d) s)

/-- `RL E` (R222). -/
def execRlE (s : State) : Result := .next (rotateOperand .rl (.reg .e) s)

/-- `RL H` (R222). -/
def execRlH (s : State) : Result := .next (rotateOperand .rl (.reg .h) s)

/-- `RL L` (R222). -/
def execRlL (s : State) : Result := .next (rotateOperand .rl (.reg .l) s)

/-- `RL (HL)` (R222). -/
def execRlAtHL (s : State) : Result := .next (rotateOperand .rl .atHL s)

/-- `RL A` (R222). -/
def execRlA (s : State) : Result := .next (rotateOperand .rl (.reg .a) s)

/-- `RR B` (R223). -/
def execRrB (s : State) : Result := .next (rotateOperand .rr (.reg .b) s)

/-- `RR C` (R223). -/
def execRrC (s : State) : Result := .next (rotateOperand .rr (.reg .c) s)

/-- `RR D` (R223). -/
def execRrD (s : State) : Result := .next (rotateOperand .rr (.reg .d) s)

/-- `RR E` (R223). -/
def execRrE (s : State) : Result := .next (rotateOperand .rr (.reg .e) s)

/-- `RR H` (R223). -/
def execRrH (s : State) : Result := .next (rotateOperand .rr (.reg .h) s)

/-- `RR L` (R223). -/
def execRrL (s : State) : Result := .next (rotateOperand .rr (.reg .l) s)

/-- `RR (HL)` (R223). -/
def execRrAtHL (s : State) : Result := .next (rotateOperand .rr .atHL s)

/-- `RR A` (R223). -/
def execRrA (s : State) : Result := .next (rotateOperand .rr (.reg .a) s)

/-- `SLA B` (R224). -/
def execSlaB (s : State) : Result := .next (rotateOperand .sla (.reg .b) s)

/-- `SLA C` (R224). -/
def execSlaC (s : State) : Result := .next (rotateOperand .sla (.reg .c) s)

/-- `SLA D` (R224). -/
def execSlaD (s : State) : Result := .next (rotateOperand .sla (.reg .d) s)

/-- `SLA E` (R224). -/
def execSlaE (s : State) : Result := .next (rotateOperand .sla (.reg .e) s)

/-- `SLA H` (R224). -/
def execSlaH (s : State) : Result := .next (rotateOperand .sla (.reg .h) s)

/-- `SLA L` (R224). -/
def execSlaL (s : State) : Result := .next (rotateOperand .sla (.reg .l) s)

/-- `SLA (HL)` (R224). -/
def execSlaAtHL (s : State) : Result := .next (rotateOperand .sla .atHL s)

/-- `SLA A` (R224). -/
def execSlaA (s : State) : Result := .next (rotateOperand .sla (.reg .a) s)

/-- `SRA B` (R225). -/
def execSraB (s : State) : Result := .next (rotateOperand .sra (.reg .b) s)

/-- `SRA C` (R225). -/
def execSraC (s : State) : Result := .next (rotateOperand .sra (.reg .c) s)

/-- `SRA D` (R225). -/
def execSraD (s : State) : Result := .next (rotateOperand .sra (.reg .d) s)

/-- `SRA E` (R225). -/
def execSraE (s : State) : Result := .next (rotateOperand .sra (.reg .e) s)

/-- `SRA H` (R225). -/
def execSraH (s : State) : Result := .next (rotateOperand .sra (.reg .h) s)

/-- `SRA L` (R225). -/
def execSraL (s : State) : Result := .next (rotateOperand .sra (.reg .l) s)

/-- `SRA (HL)` (R225). -/
def execSraAtHL (s : State) : Result := .next (rotateOperand .sra .atHL s)

/-- `SRA A` (R225). -/
def execSraA (s : State) : Result := .next (rotateOperand .sra (.reg .a) s)

/-- `SWAP B` (R226). -/
def execSwapB (s : State) : Result := .next (rotateOperand .swap (.reg .b) s)

/-- `SWAP C` (R226). -/
def execSwapC (s : State) : Result := .next (rotateOperand .swap (.reg .c) s)

/-- `SWAP D` (R226). -/
def execSwapD (s : State) : Result := .next (rotateOperand .swap (.reg .d) s)

/-- `SWAP E` (R226). -/
def execSwapE (s : State) : Result := .next (rotateOperand .swap (.reg .e) s)

/-- `SWAP H` (R226). -/
def execSwapH (s : State) : Result := .next (rotateOperand .swap (.reg .h) s)

/-- `SWAP L` (R226). -/
def execSwapL (s : State) : Result := .next (rotateOperand .swap (.reg .l) s)

/-- `SWAP (HL)` (R226). -/
def execSwapAtHL (s : State) : Result := .next (rotateOperand .swap .atHL s)

/-- `SWAP A` (R226). -/
def execSwapA (s : State) : Result := .next (rotateOperand .swap (.reg .a) s)

/-- `SRL B` (R227). -/
def execSrlB (s : State) : Result := .next (rotateOperand .srl (.reg .b) s)

/-- `SRL C` (R227). -/
def execSrlC (s : State) : Result := .next (rotateOperand .srl (.reg .c) s)

/-- `SRL D` (R227). -/
def execSrlD (s : State) : Result := .next (rotateOperand .srl (.reg .d) s)

/-- `SRL E` (R227). -/
def execSrlE (s : State) : Result := .next (rotateOperand .srl (.reg .e) s)

/-- `SRL H` (R227). -/
def execSrlH (s : State) : Result := .next (rotateOperand .srl (.reg .h) s)

/-- `SRL L` (R227). -/
def execSrlL (s : State) : Result := .next (rotateOperand .srl (.reg .l) s)

/-- `SRL (HL)` (R227). -/
def execSrlAtHL (s : State) : Result := .next (rotateOperand .srl .atHL s)

/-- `SRL A` (R227). -/
def execSrlA (s : State) : Result := .next (rotateOperand .srl (.reg .a) s)

end Sys2Proof.Machine
end

