-- ==== Sys2Proof/WellFormed.lean ====
section
/-! DEFINITION. Sys2Proof/WellFormed.lean: which terms of `Instr` are whole instructions. Every immediate is typed with
its width and every operand is a closed table, so one check is left: the `CB` prefix byte without its second byte is
not an instruction of its own (46_system.md R266). -/

namespace Sys2Proof

/-- The term is the bare prefix byte, whose second byte has yet to be fetched (R266). -/
def Instr.isBarePrefix : Instr → Bool
  | .prefixCB => true
  | _ => false

/-- The term is a whole instruction: R266, "The prefix is not an instruction of its own". -/
def Instr.wellFormed (i : Instr) : Bool := !i.isBarePrefix

/-- `Instr.wellFormed` as a proposition. -/
abbrev WellFormed (i : Instr) : Prop := i.wellFormed = true

end Sys2Proof
end

