-- ==== Sys2Proof/Machine/System.lean ====
section
/-! DEFINITION. Sys2Proof/Machine/System.lean: system instructions, the prefix and the undefined opcodes (46_system.md R260 to
R268). -/

namespace Sys2Proof.Machine

/-- `NOP` (R260). -/
def nop (s : State) : State := s

/-- `HALT` (R262): with no source enabled the next byte is skipped, otherwise `halt` is set. -/
def haltCpu (s : State) : State := if s.ie = 0 then setPc (s.regs.pc + 1) s else setHalt true s

/-- `STOP` (R263). -/
def stopCpu (s : State) : State := raiseStopExecuted s

/-- `DI` (R264). -/
def disableInterrupts (s : State) : State := setIme false s

/-- `EI` (R265): at once, with no delay (D7). -/
def enableInterrupts (s : State) : State := setIme true s

/-- The instruction that a second byte after `0xCB` selects (R109, R219). -/
def cbOperation (op2 : Byte) (s : State) : State :=
  match xField op2 with
  | 0 => rotateOperand (rotOf (yField op2)) (operandOf (zField op2)) s
  | 1 => bitTest (idx8 (yField op2)) (operandOf (zField op2)) s
  | 2 => bitReset (idx8 (yField op2)) (operandOf (zField op2)) s
  | _ => bitSet (idx8 (yField op2)) (operandOf (zField op2)) s

/-- The `CB` prefix (R266): `op2 <- Fetch8()`, then the CB table. -/
def prefixCB (s : State) : State := cbOperation (fetchedByte s) (afterFetch s)

/-- An undefined opcode (R267). -/
def undefinedOpcode (op : Byte) (s : State) : State := raiseUndefinedOpcode op s

/-! ### The meanings, one per constructor -/

/-- `NOP` (R260). -/
def execNop (s : State) : Result := .next (nop s)

/-- `STOP` (R263). -/
def execStop (s : State) : Result := .next (stopCpu s)

/-- `HALT` (R262). -/
def execHalt (s : State) : Result := .next (haltCpu s)

/-- `PREFIX CB` (R266). -/
def execPrefixCB (s : State) : Result := .next (prefixCB s)

/-- `Undefined opcode 0xD3` (R267). -/
def execUndefD3 (s : State) : Result := .next (undefinedOpcode 0xD3 s)

/-- `Undefined opcode 0xDB` (R267). -/
def execUndefDB (s : State) : Result := .next (undefinedOpcode 0xDB s)

/-- `Undefined opcode 0xDD` (R267). -/
def execUndefDD (s : State) : Result := .next (undefinedOpcode 0xDD s)

/-- `Undefined opcode 0xE3` (R267). -/
def execUndefE3 (s : State) : Result := .next (undefinedOpcode 0xE3 s)

/-- `Undefined opcode 0xE4` (R267). -/
def execUndefE4 (s : State) : Result := .next (undefinedOpcode 0xE4 s)

/-- `Undefined opcode 0xEB` (R267). -/
def execUndefEB (s : State) : Result := .next (undefinedOpcode 0xEB s)

/-- `Undefined opcode 0xEC` (R267). -/
def execUndefEC (s : State) : Result := .next (undefinedOpcode 0xEC s)

/-- `Undefined opcode 0xED` (R267). -/
def execUndefED (s : State) : Result := .next (undefinedOpcode 0xED s)

/-- `DI` (R264). -/
def execDi (s : State) : Result := .next (disableInterrupts s)

/-- `Undefined opcode 0xF4` (R267). -/
def execUndefF4 (s : State) : Result := .next (undefinedOpcode 0xF4 s)

/-- `EI` (R265). -/
def execEi (s : State) : Result := .next (enableInterrupts s)

/-- `Undefined opcode 0xFC` (R267). -/
def execUndefFC (s : State) : Result := .next (undefinedOpcode 0xFC s)

/-- `Undefined opcode 0xFD` (R267). -/
def execUndefFD (s : State) : Result := .next (undefinedOpcode 0xFD s)

end Sys2Proof.Machine
end

