-- ==== Sys2Proof/Machine/Fetch.lean ====
section
/-! DEFINITION. Sys2Proof/Machine/Fetch.lean: fetching an instruction's bytes (00_scope.md R13, 30_encoding.md R100 to R102),
and placing an instruction's bytes where they will be fetched. -/

namespace Sys2Proof.Machine

/-- The state after `n` fetches (R13): `n` machine cycles later, `PC` `n` further. -/
def afterFetches : Nat → State → State
  | 0, s => s
  | n + 1, s => afterFetches n (afterFetch s)

/-- The byte that the fetch after `n` fetches reads. -/
def fetchedByteAt (n : Nat) (s : State) : Byte := fetchedByte (afterFetches n s)

/-- The bytes that three fetches in a row read: no instruction is longer (R100). -/
def fetchedBytes (s : State) : List Byte := [fetchedByteAt 0 s, fetchedByteAt 1 s, fetchedByteAt 2 s]

/-- Fetch an instruction (R102, R111): its opcode, the second byte after the prefix (R266), its immediate bytes, one
machine cycle each. Gives the instruction and the state in which its body runs. -/
def fetchInstr (s : State) : Instr × State :=
  let op := fetchedByteAt 0 s
  match opcodeFormat op with
  | .op => (decodePrimary op 0 0, afterFetches 1 s)
  | .cbOp => (decodeCB (fetchedByteAt 1 s), afterFetches 2 s)
  | .opN16 => (decodePrimary op (fetchedByteAt 1 s) (fetchedByteAt 2 s), afterFetches 3 s)
  | _ => (decodePrimary op (fetchedByteAt 1 s) 0, afterFetches 2 s)

/-! ### Placing an instruction -/

/-- The device holds bytes that stay until they are fetched: ROM and RAM, but not `OAM`, which a transfer may write, and
not a register. -/
def holdsCode (s : State) : Device → Bool
  | .bootRom _ => true
  | .cartRom _ => true
  | .vram _ => true
  | .cartRam _ => cartRamEnabled s
  | .wram _ => true
  | .hram _ => true
  | .oam _ => false
  | .io _ => false
  | .dma => false
  | .ppu _ => false
  | .bootUnmap => false
  | .ie => false
  | .unmapped => false

/-- Put a byte behind a device that holds code: into the image for ROM, by a device write for RAM. -/
def placeAt (s : State) (dev : Device) (v : Byte) : State :=
  match dev with
  | .bootRom k =>
    { s with params := { s.params with bootRom := some (Memory.write .bootRom (s.params.bootRom.getD []) k v) } }
  | .cartRom a =>
    { s with params := { s.params with cartRom := Memory.write .cartRom s.params.cartRom (cartRomOffset s a) v } }
  | d => deviceWrite s d v

/-- Put a byte at a bus address. -/
def placeByte (s : State) (addr : Word) (v : Byte) : State := placeAt s (deviceAt s.bootMapped addr) v

/-- The three bytes from `addr` on hold code. -/
def holdsCodeAt (s : State) (addr : Word) : Bool :=
  holdsCode s (deviceAt s.bootMapped addr) && holdsCode s (deviceAt s.bootMapped (addr + 1)) &&
    holdsCode s (deviceAt s.bootMapped (addr + 2))

/-- The state whose next step fetches: it runs, is not halted, and takes no interrupt. -/
def readyToFetch (s : State) : State :=
  { s with ctl := { s.ctl with ime := s.ctl.ime && !interruptPending s, halt := false, status := .running } }

/-- The address the next step will fetch from: `PC` where three bytes can stand there, else the start of work RAM. -/
def codeAddress (s : State) : Word := if holdsCodeAt s s.regs.pc then s.regs.pc else 0xC000

/-- Place up to three bytes where the next step fetches, zero bytes after the given ones. -/
def placeCode (bytes : List Byte) (s : State) : State :=
  let pc := codeAddress s
  let t := setPc pc (readyToFetch s)
  placeByte (placeByte (placeByte t pc (bytes.getD 0 0)) (pc + 1) (bytes.getD 1 0)) (pc + 2) (bytes.getD 2 0)

end Sys2Proof.Machine
end

