-- ==== Sys2Proof/Machine/Step.lean ====
section
/-! DEFINITION. Sys2Proof/Machine/Step.lean: the CPU step (60_exceptions.md R290), and placing the instruction it runs. -/

namespace Sys2Proof.Machine

/-- `CpuStep()` (R290): from a terminal status there is no step (R283). A pending enabled request clears `halt` (R291);
a halted CPU spends one machine cycle; with `IME` a pending enabled request is entered (R293); otherwise one instruction
is fetched and runs. -/
def step (s : State) : Host.Outcome State Fault Refusal :=
  match s.ctl.status with
  | .running =>
    let t := wake s
    if t.ctl.halt then .next (cycle t)
    else if t.ctl.ime && interruptPending t then .next (interruptEntry t)
    else exec (fetchInstr t).1 (fetchInstr t).2
  | st => .fault (.terminal st)

/-- The state whose next step fetches and runs the instruction of a word of spec/opcode_table.json, its operand bytes
zero where the word gives none. -/
def State.withFetchWord (s : State) (nbits w : Nat) : State := placeCode (instrBytes nbits w) s

end Sys2Proof.Machine
end

