-- ==== Sys2Proof/Machine/HostApi.lean ====
section
/-! DEFINITION. Sys2Proof/Machine/HostApi.lean: the host's actions (70_reset_and_hazards.md R410 to R412). They fall between
steps alone (60_exceptions.md R302). Construction is `State.construct`; discarding a machine changes nothing. -/

namespace Sys2Proof.Machine

/-- Some key is pressed. -/
def Pad.anyPressed (p : Pad) : Bool := p.up || p.down || p.left || p.right || p.a || p.b || p.start || p.select

/-- `UpdatePad(g)` (R343): the joypad request is raised on the change from no key pressed to some key pressed. -/
def updatePad (g : Pad) (s : State) : State :=
  { s with
    joypad := { s.joypad with pad := g }
    irq := if !s.joypad.pad.anyPressed && g.anyPressed then s.irq ||| 0x10 else s.irq }

/-- `FrameBuffer()` (R387): a pure read of the 23040 entries. -/
def frameBuffer (s : State) : List (BitVec 32) := (List.range screenPixels).map (pixelAt s.ppu.fb)

/-- Some tick between `s` and `t` ran the PPU step with `ppu_clock = 65664` (R411): fewer ticks lead from `s` to that
value than have passed. -/
def passedVBlank (s t : State) : Bool :=
  decide ((vblankStart + ticksPerFrame - s.ppu.ppuClock) % ticksPerFrame < t.clock - s.clock)

/-- The loop of `StepFrame()` (R411) for at most `fuel` steps, `start` being the clock at the call: the ticks elapsed and
the state. -/
def stepFrameFrom (start : Nat) : Nat → State → Nat × State
  | 0, s => (s.clock - start, s)
  | fuel + 1, s =>
    match step s with
    | .next t => if passedVBlank s t then (t.clock - start, t) else stepFrameFrom start fuel t
    | .fault _ => (s.clock - start, s)
    | .refused _ => (s.clock - start, s)

/-- Steps that one `StepFrame()` can take at most: every step runs at least the four ticks of one machine cycle, and a
frame has 70224 ticks (R351). -/
def frameSteps : Nat := 17556

/-- `StepFrame()` (R411): whole steps until one passes the start of line 144, or the machine is in a terminal status. -/
def stepFrame (s : State) : Nat × State := stepFrameFrom s.clock frameSteps s

end Sys2Proof.Machine
end

