-- ==== Sys2Proof/Machine/Timing.lean ====
section
/-! DEFINITION. Sys2Proof/Machine/Timing.lean: the machine cycles of every instruction as 70_reset_and_hazards.md R420 lists
them, fetches included. No step reads this table: the cycles of a step are the ones its accesses take. Claims compare the
two. -/

namespace Sys2Proof

/-- The condition an instruction tests (R106), if it is conditional. -/
def Instr.condition : Instr → Option Cond
  | .jrNZE _ | .retNZ | .jpNZNn _ | .callNZNn _ => some .nz
  | .jrZE _ | .retZ | .jpZNn _ | .callZNn _ => some .z
  | .jrNCE _ | .retNC | .jpNCNn _ | .callNCNn _ => some .nc
  | .jrCE _ | .retC | .jpCNn _ | .callCNn _ => some .c
  | _ => none

/-- The machine cycles of an instruction (R420) when its condition fails and when it holds; one count twice where there is
no condition. The bare prefix has none of its own (R266). -/
def Instr.cycleCounts : Instr → Nat × Nat
  | .nop | .incB | .decB | .rlca | .incC | .decC | .rrca | .stop | .incD | .decD | .rla | .incE | .decE | .rra
  | .incH | .decH | .daa | .incL | .decL | .cpl | .scf | .incA | .decA | .ccf | .ldBB | .ldBC | .ldBD | .ldBE
  | .ldBH | .ldBL | .ldBA | .ldCB | .ldCC | .ldCD | .ldCE | .ldCH | .ldCL | .ldCA | .ldDB | .ldDC | .ldDD
  | .ldDE | .ldDH | .ldDL | .ldDA | .ldEB | .ldEC | .ldED | .ldEE | .ldEH | .ldEL | .ldEA | .ldHB | .ldHC
  | .ldHD | .ldHE | .ldHH | .ldHL | .ldHA | .ldLB | .ldLC | .ldLD | .ldLE | .ldLH | .ldLL | .ldLA | .halt
  | .ldAB | .ldAC | .ldAD | .ldAE | .ldAH | .ldAL | .ldAA | .addAB | .addAC | .addAD | .addAE | .addAH | .addAL
  | .addAA | .adcAB | .adcAC | .adcAD | .adcAE | .adcAH | .adcAL | .adcAA | .subB | .subC | .subD | .subE
  | .subH | .subL | .subA | .sbcAB | .sbcAC | .sbcAD | .sbcAE | .sbcAH | .sbcAL | .sbcAA | .andB | .andC
  | .andD | .andE | .andH | .andL | .andA | .xorB | .xorC | .xorD | .xorE | .xorH | .xorL | .xorA | .orB | .orC
  | .orD | .orE | .orH | .orL | .orA | .cpB | .cpC | .cpD | .cpE | .cpH | .cpL | .cpA | .undefD3 | .undefDB
  | .undefDD | .undefE3 | .undefE4 | .jpHL | .undefEB | .undefEC | .undefED | .di | .undefF4 | .ei | .undefFC
  | .undefFD => (1, 1)
  | .ldAtBCA | .incBC | .ldBN _ | .addHLBC | .ldAAtBC | .decBC | .ldCN _ | .ldAtDEA | .incDE | .ldDN _
  | .addHLDE | .ldAAtDE | .decDE | .ldEN _ | .ldAtHLIncA | .incHL | .ldHN _ | .addHLHL | .ldAAtHLInc | .decHL
  | .ldLN _ | .ldAtHLDecA | .incSP | .addHLSP | .ldAAtHLDec | .decSP | .ldAN _ | .ldBAtHL | .ldCAtHL | .ldDAtHL
  | .ldEAtHL | .ldHAtHL | .ldLAtHL | .ldAtHLB | .ldAtHLC | .ldAtHLD | .ldAtHLE | .ldAtHLH | .ldAtHLL | .ldAtHLA
  | .ldAAtHL | .addAAtHL | .adcAAtHL | .subAtHL | .sbcAAtHL | .andAtHL | .xorAtHL | .orAtHL | .cpAtHL
  | .addAN _ | .adcAN _ | .subN _ | .sbcAN _ | .ldAtCA | .andN _ | .xorN _ | .ldAAtC | .orN _ | .ldSPHL
  | .cpN _ | .rlcB | .rlcC | .rlcD | .rlcE | .rlcH | .rlcL | .rlcA | .rrcB | .rrcC | .rrcD | .rrcE | .rrcH
  | .rrcL | .rrcA | .rlB | .rlC | .rlD | .rlE | .rlH | .rlL | .rlA | .rrB | .rrC | .rrD | .rrE | .rrH | .rrL
  | .rrA | .slaB | .slaC | .slaD | .slaE | .slaH | .slaL | .slaA | .sraB | .sraC | .sraD | .sraE | .sraH
  | .sraL | .sraA | .swapB | .swapC | .swapD | .swapE | .swapH | .swapL | .swapA | .srlB | .srlC | .srlD
  | .srlE | .srlH | .srlL | .srlA | .bit0B | .bit0C | .bit0D | .bit0E | .bit0H | .bit0L | .bit0A | .bit1B
  | .bit1C | .bit1D | .bit1E | .bit1H | .bit1L | .bit1A | .bit2B | .bit2C | .bit2D | .bit2E | .bit2H | .bit2L
  | .bit2A | .bit3B | .bit3C | .bit3D | .bit3E | .bit3H | .bit3L | .bit3A | .bit4B | .bit4C | .bit4D | .bit4E
  | .bit4H | .bit4L | .bit4A | .bit5B | .bit5C | .bit5D | .bit5E | .bit5H | .bit5L | .bit5A | .bit6B | .bit6C
  | .bit6D | .bit6E | .bit6H | .bit6L | .bit6A | .bit7B | .bit7C | .bit7D | .bit7E | .bit7H | .bit7L | .bit7A
  | .res0B | .res0C | .res0D | .res0E | .res0H | .res0L | .res0A | .res1B | .res1C | .res1D | .res1E | .res1H
  | .res1L | .res1A | .res2B | .res2C | .res2D | .res2E | .res2H | .res2L | .res2A | .res3B | .res3C | .res3D
  | .res3E | .res3H | .res3L | .res3A | .res4B | .res4C | .res4D | .res4E | .res4H | .res4L | .res4A | .res5B
  | .res5C | .res5D | .res5E | .res5H | .res5L | .res5A | .res6B | .res6C | .res6D | .res6E | .res6H | .res6L
  | .res6A | .res7B | .res7C | .res7D | .res7E | .res7H | .res7L | .res7A | .set0B | .set0C | .set0D | .set0E
  | .set0H | .set0L | .set0A | .set1B | .set1C | .set1D | .set1E | .set1H | .set1L | .set1A | .set2B | .set2C
  | .set2D | .set2E | .set2H | .set2L | .set2A | .set3B | .set3C | .set3D | .set3E | .set3H | .set3L | .set3A
  | .set4B | .set4C | .set4D | .set4E | .set4H | .set4L | .set4A | .set5B | .set5C | .set5D | .set5E | .set5H
  | .set5L | .set5A | .set6B | .set6C | .set6D | .set6E | .set6H | .set6L | .set6A | .set7B | .set7C | .set7D
  | .set7E | .set7H | .set7L | .set7A => (2, 2)
  | .jrNZE _ | .jrZE _ | .jrNCE _ | .jrCE _ => (2, 3)
  | .retNZ | .retZ | .retNC | .retC => (2, 5)
  | .ldBCNn _ | .ldDENn _ | .jrE _ | .ldHLNn _ | .ldSPNn _ | .incAtHL | .decAtHL | .ldAtHLN _ | .popBC | .popDE
  | .ldhAtNA _ | .popHL | .ldhAAtN _ | .popAF | .ldHLSPE _ | .bit0AtHL | .bit1AtHL | .bit2AtHL | .bit3AtHL
  | .bit4AtHL | .bit5AtHL | .bit6AtHL | .bit7AtHL => (3, 3)
  | .jpNZNn _ | .jpZNn _ | .jpNCNn _ | .jpCNn _ => (3, 4)
  | .callNZNn _ | .callZNn _ | .callNCNn _ | .callCNn _ => (3, 6)
  | .jpNn _ | .pushBC | .rst00 | .ret | .rst08 | .pushDE | .rst10 | .reti | .rst18 | .pushHL | .rst20
  | .addSPE _ | .ldAtNnA _ | .rst28 | .pushAF | .rst30 | .ldAAtNn _ | .rst38 | .rlcAtHL | .rrcAtHL | .rlAtHL
  | .rrAtHL | .slaAtHL | .sraAtHL | .swapAtHL | .srlAtHL | .res0AtHL | .res1AtHL | .res2AtHL | .res3AtHL
  | .res4AtHL | .res5AtHL | .res6AtHL | .res7AtHL | .set0AtHL | .set1AtHL | .set2AtHL | .set3AtHL | .set4AtHL
  | .set5AtHL | .set6AtHL | .set7AtHL => (4, 4)
  | .ldAtNnSP _ => (5, 5)
  | .callNn _ => (6, 6)
  | .prefixCB => (0, 0)

/-- The machine cycles an instruction takes in a state (R420). -/
def Instr.machineCycles (i : Instr) (s : Machine.State) : Nat :=
  match i.condition with
  | some cc => if Machine.condHolds cc s then i.cycleCounts.2 else i.cycleCounts.1
  | none => i.cycleCounts.1

end Sys2Proof
end

