-- ==== Sys2Proof/Safety.lean ====
section
/-! DEFINITION. Sys2Proof/Safety.lean: the terms claims use. The invariants of every reachable state (10_state.md R47 and what
the rules imply beside it), and what an instruction may change: registers, flags, memory, the other agents. -/

namespace Sys2Proof.Machine

/-! ### Invariants -/

/-- `F[3:0] = 0` (R22). -/
def State.FlagsLow (s : State) : Prop := s.regs.f &&& 0x0F = 0

/-- The eleven undefined primary opcodes (R108). -/
def undefinedBytes : List Byte := [0xD3, 0xDB, 0xDD, 0xE3, 0xE4, 0xEB, 0xEC, 0xED, 0xF4, 0xFC, 0xFD]

/-- The terminal status and the `stop` flag agree (R263, R282), and a recorded byte is an undefined one, fetched just
below `PC` (R281). -/
def State.StatusOk (s : State) : Prop :=
  match s.ctl.status with
  | .running => s.ctl.stop = false
  | .stopExecuted => s.ctl.stop = true
  | .undefinedOpcode byte pc => s.ctl.stop = false ∧ byte ∈ undefinedBytes ∧ s.regs.pc = pc + 1

/-- A halted CPU has a source enabled (R262). -/
def State.HaltOk (s : State) : Prop := s.ctl.halt = true → s.ie ≠ 0

/-- The DMA index is at most 160, and below it while a transfer runs (R47). -/
def Dma.Ok (d : Dma) : Prop := d.index ≤ dmaLength ∧ (d.active = true → d.index < dmaLength)

/-- `ppu_clock` is in `[0, 70223]` (R47). -/
def Ppu.ClockOk (p : Ppu) : Prop := p.ppuClock < ticksPerFrame

/-- `LY` is the scanline of the next tick (R351, R365, R366), so it is at most 153. -/
def Ppu.LineOk (p : Ppu) : Prop := p.ly.toNat = p.ppuClock / ticksPerLine

/-- The mode that `STAT` shows once the tick with `ppu_clock = t` has run (R368). -/
def modeAfter (t : Nat) : PpuMode :=
  if vblankStart ≤ t then .vblank
  else if t % ticksPerLine < 80 then .oamScan
  else if t % ticksPerLine < 240 then .draw
  else .hblank

/-- `mode` is the one of the last tick (R368); before the first tick it is 0. -/
def Ppu.ModeOk (p : Ppu) : Prop :=
  p.mode = modeAfter ((p.ppuClock + lastTick) % ticksPerFrame) ∨ (p.ppuClock = 0 ∧ p.mode = .hblank)

/-- `LX` is at most 160, and inside a visible line it is the number of draw ticks of the line so far (R362). -/
def Ppu.ColumnOk (p : Ppu) : Prop :=
  p.lx ≤ screenWidth ∧
    (p.ppuClock < vblankStart → p.ppuClock % ticksPerLine ≠ 0 → p.lx = min (p.ppuClock % ticksPerLine - 80) screenWidth)

/-- The sprite cache has at most ten entries (R44, R47). -/
def Ppu.SpritesOk (p : Ppu) : Prop := p.sprites.length ≤ 10

/-- The memories are in canonical form, inside their sizes. -/
def Mems.Ok (m : Mems) : Prop :=
  Memory.wf .vram m.vram = true ∧ Memory.wf .oam m.oam = true ∧ Memory.wf .wram m.wram = true ∧
    Memory.wf .hram m.hram = true ∧ Memory.wf .cartRam m.cartRam = true

/-- The bank register never selects a bank whose low five bits are zero (R83). -/
def Mbc.Ok (m : Mbc) : Prop := m.bank &&& 0x1F ≠ 0

/-- The boot ROM is mapped only in a machine constructed with it (R35, R401). -/
def State.BootOk (s : State) : Prop := s.bootMapped = true → s.params.useBootRom = true

/-- The images a machine was constructed with are in canonical form, inside their sizes. -/
def Params.Ok (p : Params) : Prop :=
  Memory.wf .cartRom p.cartRom = true ∧ ∀ image, p.bootRom = some image → Memory.wf .bootRom image = true

/-- The invariants of every reachable state (R47, with R262, R281, R351, R362, R365 and R368). -/
structure State.Inv (s : State) : Prop where
  flagsLow : s.FlagsLow
  statusOk : s.StatusOk
  haltOk : s.HaltOk
  dmaOk : s.dma.Ok
  clockOk : s.ppu.ClockOk
  lineOk : s.ppu.LineOk
  modeOk : s.ppu.ModeOk
  columnOk : s.ppu.ColumnOk
  spritesOk : s.ppu.SpritesOk
  pictureOk : frameBufferWf s.ppu.fb = true
  memsOk : s.mems.Ok
  mbcOk : s.mbc.Ok
  bootOk : s.BootOk
  imagesOk : Params.Ok s.params

/-! ### What an instruction may change -/

/-- Every 8-bit register outside `written` is the same. -/
def KeepsRegs (written : List Reg8) (s t : State) : Prop := ∀ r, r ∉ written → getReg r t = getReg r s

/-- All of the register `F` is the same. -/
def KeepsF (s t : State) : Prop := t.regs.f = s.regs.f

/-- The flags are `fl`, and the low four bits of `F` are as before (R189). -/
def WritesFlags (fl : Flags) (s t : State) : Prop := t.flags = fl ∧ t.regs.f &&& 0x0F = s.regs.f &&& 0x0F

/-- `SP` is the same. -/
def KeepsSp (s t : State) : Prop := t.regs.sp = s.regs.sp

/-- `PC` is the same: past the instruction, whose bytes have been fetched. -/
def KeepsPc (s t : State) : Prop := t.regs.pc = s.regs.pc

/-- `IME`, `halt`, `stop` and the terminal status are the same. -/
def KeepsCtl (s t : State) : Prop := t.ctl = s.ctl

/-- Everything but the CPU's own registers and control state is as in `u`: the other agents, the memories, the interrupt
registers, the clock, the mapping, the parameters. -/
def AgentsOf (u t : State) : Prop := t = { u with regs := t.regs, ctl := t.ctl }

/-- The addresses whose byte changes without a CPU write as time passes (R74): `OAM` during a transfer, `DIV`, `TIMA`,
`IRQ`, `STAT`, `LY`. -/
def changesWithTime (a : Word) : Bool :=
  (decide (0xFE00 ≤ a.toNat) && decide (a.toNat < 0xFEA0)) || a == 0xFF04 || a == 0xFF05 || a == 0xFF0F || a == 0xFF41 ||
    a == 0xFF44

/-- The address lies in work RAM or its echo (R65). -/
def inWram (a : Word) : Bool := decide (0xC000 ≤ a.toNat) && decide (a.toNat < 0xFE00)

/-- What a read of `b` gives may depend on a store to `a`: `b` is `a`; both name one byte of work RAM (R65); `a` is a
bank or RAM-enable register of an MBC1 and `b` in the window it governs (R83, R84); `a` unmaps the boot ROM (R69). -/
def storeReaches (kind : CartKind) (a b : Word) : Bool :=
  a == b ||
    (inWram a && inWram b && a.toNat % 0x2000 == b.toNat % 0x2000) ||
    (kind == .mbc1 && decide (a.toNat < 0x2000) && decide (0xA000 ≤ b.toNat) && decide (b.toNat < 0xC000)) ||
    (kind == .mbc1 && decide (0x2000 ≤ a.toNat) && decide (a.toNat < 0x4000) && decide (0x4000 ≤ b.toNat) &&
      decide (b.toNat < 0x8000)) ||
    (a == 0xFF50 && decide (b.toNat < 0x100))

/-- The memory frame: from memories in canonical form, every address that no store of the list reaches and no other agent
changes reads as before. -/
def KeepsMemory (stored : List Word) (s t : State) : Prop :=
  s.mems.Ok → ∀ b, changesWithTime b = false → (∀ a ∈ stored, storeReaches s.params.cartKind a b = false) → busRead t b = busRead s b

/-- The address is plain storage that answers whatever the state (R31, R36, R38): `VRAM`, `WRAM` and its echo, `HRAM`. -/
def plainRam (a : Word) : Bool :=
  (decide (0x8000 ≤ a.toNat) && decide (a.toNat < 0xA000)) || inWram a ||
    (decide (0xFF80 ≤ a.toNat) && decide (a.toNat < 0xFFFF))

/-- Of the CPU's own state nothing changes but the registers of `written`. -/
def OnlyRegs (written : List Reg8) (s t : State) : Prop :=
  KeepsRegs written s t ∧ KeepsF s t ∧ KeepsSp s t ∧ KeepsPc s t ∧ KeepsCtl s t

/-- Of the CPU's own state nothing changes but the registers of `written` and the flags, which become `fl`. -/
def OnlyRegsAndFlags (written : List Reg8) (fl : Flags) (s t : State) : Prop :=
  KeepsRegs written s t ∧ WritesFlags fl s t ∧ KeepsSp s t ∧ KeepsPc s t ∧ KeepsCtl s t

/-- The 8-bit halves of a pair; `SP` has none (R21). -/
def pairRegs : Pair → List Reg8
  | .bc => [.b, .c]
  | .de => [.d, .e]
  | .hl => [.h, .l]
  | .sp => []

/-! ### What an instruction does -/

/-- `i` stores `v` at `addr` and changes nothing else of its own (R11). -/
def Stores (i : Instr) (s : State) (addr : Word) (v : Byte) : Prop :=
  ∃ t, exec i s = .next t ∧ OnlyRegs [] s t ∧ AgentsOf (cycle (busWrite s addr v)) t ∧ KeepsMemory [addr] s t

/-- `i` loads the register `dst` with the byte at `addr` and changes nothing else of its own (R11). -/
def Loads (i : Instr) (s : State) (dst : Reg8) (addr : Word) : Prop :=
  ∃ t, exec i s = .next t ∧ getReg dst t = busRead s addr ∧ OnlyRegs [dst] s t ∧ AgentsOf (cycle s) t ∧ KeepsMemory [] s t

/-- `i` leaves `a` in `A` and `fl` in the flags, `k` machine cycles of its own later, and changes nothing else. -/
def AccResult (i : Instr) (s : State) (k : Nat) (a : Byte) (fl : Flags) : Prop :=
  ∃ t, exec i s = .next t ∧ t.regs.a = a ∧ OnlyRegsAndFlags [.a] fl s t ∧ AgentsOf (cycles k s) t ∧ KeepsMemory [] s t

/-- A property of every operand form of `alu[y]` (R170): the instruction, its operand byte, the machine cycles after its
fetches. -/
def AluForms (op : AluOp) (s : State) (P : Instr → Byte → Nat → Prop) : Prop :=
  (∀ r, P (aluInstr op (.reg r)) (getReg r s) 0) ∧ P (aluInstr op .atHL) (busRead s (hlPair s)) 1 ∧
    ∀ n, P (aluNInstr op n) n 0

/-- Every operand form of `i` replaces its operand `v` by `w v` and the flags by `fl v` (R180 to R183, R219): a register in
no further time, the byte at `HL` by a read and a write, and nothing else changes. -/
def Replaces (i : Operand → Instr) (s : State) (w : Byte → Byte) (fl : Byte → Flags) : Prop :=
  (∀ r, ∃ t, exec (i (.reg r)) s = .next t ∧ getReg r t = w (getReg r s) ∧
      OnlyRegsAndFlags [r] (fl (getReg r s)) s t ∧ AgentsOf s t ∧ KeepsMemory [] s t) ∧
    ∃ t, exec (i .atHL) s = .next t ∧ OnlyRegsAndFlags [] (fl (busRead s (hlPair s))) s t ∧
      AgentsOf (memWrite (hlPair s) (w (busRead s (hlPair s))) (cycle s)) t ∧ KeepsMemory [hlPair s] s t

/-- `i` leaves `target` in `PC`, `k` machine cycles of its own later, and changes nothing else. -/
def JumpsTo (i : Instr) (s : State) (target : Word) (k : Nat) : Prop :=
  ∃ t, exec i s = .next t ∧ t.regs = { s.regs with pc := target } ∧ KeepsCtl s t ∧ AgentsOf (cycles k s) t ∧
    KeepsMemory [] s t

/-- The high byte of a word, by arithmetic. -/
def upperByte (w : Word) : Byte := BitVec.ofNat 8 (w.toNat / 256)

/-- The low byte of a word, by arithmetic. -/
def lowerByte (w : Word) : Byte := BitVec.ofNat 8 (w.toNat % 256)

/-- The agents after a push of `w` that starts in `u` (R15): the high byte is stored at `SP - 1`, then the low byte at
`SP - 2`. -/
def pushedAgents (w : Word) (u : State) : State :=
  memWrite (u.regs.sp - 2) (lowerByte w) (memWrite (u.regs.sp - 1) (upperByte w) u)

/-- The word a pop that starts in `u` reads (R15): the low byte at `SP`, and one machine cycle later the high byte at
`SP + 1`. -/
def poppedWord (u : State) : Word :=
  BitVec.ofNat 16 (256 * (busRead (cycle u) (u.regs.sp + 1)).toNat + (busRead u u.regs.sp).toNat)

/-- `i` spends one machine cycle, pushes `PC` and goes to `target` (R245, R250). -/
def CallsTo (i : Instr) (s : State) (target : Word) : Prop :=
  ∃ t, exec i s = .next t ∧ t.regs = { s.regs with sp := s.regs.sp - 2, pc := target } ∧ KeepsCtl s t ∧
    AgentsOf (pushedAgents s.regs.pc (cycle s)) t ∧ KeepsMemory [s.regs.sp - 1, s.regs.sp - 2] s t

/-- Bit `i` of the result of a rotate or shift of `v` with the carry flag `c` (R220 to R227), by where it comes from. -/
def rotatedBit (op : RotOp) (v : Byte) (c : Bool) (i : Nat) : Bool :=
  match op with
  | .rlc => v.getLsbD ((i + 7) % 8)
  | .rrc => v.getLsbD ((i + 1) % 8)
  | .rl => if i = 0 then c else v.getLsbD (i - 1)
  | .rr => if i = 7 then c else v.getLsbD (i + 1)
  | .sla => if i = 0 then false else v.getLsbD (i - 1)
  | .sra => v.getLsbD (min (i + 1) 7)
  | .swap => v.getLsbD ((i + 4) % 8)
  | .srl => v.getLsbD (i + 1)

/-- The carry after a rotate or shift of `v` (R220 to R227): the bit moved out, none for `SWAP`. -/
def rotatedCarry (op : RotOp) (v : Byte) : Bool :=
  match op with
  | .rlc | .rl | .sla => v.getLsbD 7
  | .rrc | .rr | .sra | .srl => v.getLsbD 0
  | .swap => false

/-- The result of a rotate or shift, from its bits. -/
def rotated (op : RotOp) (v : Byte) (c : Bool) : Byte :=
  byteOfBits (rotatedBit op v c 7) (rotatedBit op v c 6) (rotatedBit op v c 5) (rotatedBit op v c 4) (rotatedBit op v c 3)
    (rotatedBit op v c 2) (rotatedBit op v c 1) (rotatedBit op v c 0)

/-- Two decimal digits as a packed byte. -/
def packedDecimal (x : Nat) : Byte := BitVec.ofNat 8 (x / 10 % 10 * 16 + x % 10)

/-! ### The picture -/

/-- OAM entry `i` intersects the scanline (R352, R370), by comparison on natural numbers. -/
def spriteIntersects (m : Mems) (p : Ppu) (i : Nat) : Bool :=
  decide ((oamByte m (4 * i)).toNat ≤ p.ly.toNat + 16) &&
    decide (p.ly.toNat + 16 < (oamByte m (4 * i)).toNat + spriteHeight p.lcdc)

/-- What the cache holds of OAM entry `i` (R352, R370, R372): the screen position, the tile, the attributes, and the eight
colour indexes of the row that the scanline shows. -/
def cachedEntry (m : Mems) (p : Ppu) (i : Nat) : Int × Int × Byte × Byte × List (BitVec 2) :=
  let y := (oamByte m (4 * i)).toNat
  let x := (oamByte m (4 * i + 1)).toNat
  let tile := oamByte m (4 * i + 2)
  let attr := oamByte m (4 * i + 3)
  let row := p.ly.toNat + 16 - y
  let shown := if attr.getLsbD 6 then spriteHeight p.lcdc - 1 - row else row
  ((x : Int) - 8, (y : Int) - 16, tile, attr,
    (List.range 8).map fun k => tilePixel m (tile.toNat * 16 + shown * 2) (if attr.getLsbD 5 then 7 - k else k))

/-- A cached sprite shows a nonzero colour index at a column (R380). -/
def opaqueAt (lx : Nat) (sp : Sprite) : Bool :=
  decide (0 ≤ (lx : Int) - sp.x) && decide ((lx : Int) - sp.x ≤ 7) && spritePixel lx sp != 0

end Sys2Proof.Machine
end

