-- ==== Sys2Proof/Certificates/Slice0/Obligations.lean ====
section
/-! DEFINITION. Sys2Proof/Certificates/Slice0/Obligations.lean: the statements for the provers. Each docstring names the rules of
spec/ it rests on, and where a clause is a decision of the spec (92_eei_decisions.md) or general knowledge that the spec
adds to its source, it says so. -/

open Sys2Proof Sys2Proof.Machine

/-! ### Encoding -/

/-- Words written out from the encodings of 30_encoding.md (R101, R107, R109) and of the instruction rules decode to the
instruction they stand for. The document itself gives `C3 50 01`, `CB 7C` and `D3` (R113); the other bytes are general
knowledge that the spec adds. -/
def Obligations.EncodedWordsDecode : Prop :=
  decode [0xC3, 0x50, 0x01] = .ok (.jpNn 0x0150, []) ∧ decode [0xCB, 0x7C] = .ok (.bit7H, []) ∧
  decode [0xD3, 0x00] = .ok (.undefD3, [0x00]) ∧ decode [0x41] = .ok (.ldBC, []) ∧
  decode [0x3E, 0x7F] = .ok (.ldAN 0x7F, []) ∧ decode [0x36, 0x42] = .ok (.ldAtHLN 0x42, []) ∧
  decode [0x08, 0x00, 0xC0] = .ok (.ldAtNnSP 0xC000, []) ∧ decode [0xE0, 0x46] = .ok (.ldhAtNA 0x46, []) ∧
  decode [0x8B] = .ok (.adcAE, []) ∧ decode [0xEE, 0x0F] = .ok (.xorN 0x0F, []) ∧ decode [0x76] = .ok (.halt, []) ∧
  decode [0x19] = .ok (.addHLDE, []) ∧ decode [0xE8, 0xFE] = .ok (.addSPE 0xFE, []) ∧ decode [0xF5] = .ok (.pushAF, []) ∧
  decode [0x17] = .ok (.rla, []) ∧ decode [0xCB, 0x37] = .ok (.swapA, []) ∧ decode [0xCB, 0xFE] = .ok (.set7AtHL, []) ∧
  decode [0x20, 0xFC] = .ok (.jrNZE 0xFC, []) ∧ decode [0xDC, 0x00, 0x20] = .ok (.callCNn 0x2000, []) ∧
  decode [0xEF] = .ok (.rst28, [])

/-- Decoding the encoding of any whole instruction gives it back, with every operand, and leaves what follows (R100 to
R109). -/
def Obligations.DecodeAfterEncode : Prop :=
  ∀ (i : Instr) (rest : List Byte), WellFormed i → decode (encode i ++ rest) = .ok (i, rest)

/-- Each byte sequence has one meaning: what the decoder reads as a whole instruction is that instruction's encoding
(R100 to R109). -/
def Obligations.EncodeAfterDecode : Prop :=
  ∀ (bytes rest : List Byte) (i : Instr), WellFormed i → decode bytes = .ok (i, rest) → encode i ++ rest = bytes

/-- The decoder is total (R111): any three bytes hold a whole instruction at their head, and the first byte alone tells
its length (R100, R101). -/
def Obligations.DecodeTotalByFirstByte : Prop :=
  ∀ (op b1 b2 : Byte) (rest : List Byte), ∃ i rest', decode (op :: b1 :: b2 :: rest) = .ok (i, rest') ∧ WellFormed i ∧
    rest' = (op :: b1 :: b2 :: rest).drop (opcodeFormat op).length ∧ (encode i).headD 0 = op

/-- Exactly the eleven bytes of R108 raise `UndefinedOpcode`, with the byte and the address it was fetched from (R267,
R281); `STOP` alone raises `StopExecuted` (R263, R282); the instruction of every other first byte, and of every second
byte after the prefix (R109, R266), leaves the machine running. That the recorded address is the opcode's own and that
`STOP` ends the run are decisions of the spec (D8, D9). -/
def Obligations.UndefinedBytesExactlyEleven : Prop :=
  ∀ (op b1 b2 : Byte) (s : State), s.ctl.status = .running →
    (∃ t, exec (decodePrimary op b1 b2) s = .next t ∧
      t.ctl.status =
        (if op ∈ undefinedBytes then .undefinedOpcode op (s.regs.pc - 1)
          else if op = 0x10 then .stopExecuted else .running)) ∧
    ∃ t, exec (decodeCB op) s = .next t ∧ t.ctl.status = .running

/-! ### The CPU step -/

/-- A step runs the decoded instruction (R290, R102): when the machine runs, is not halted once a pending request has had
its effect, and takes no interrupt, and the bytes the fetches read decode to `i`, the step is `exec i` in the state after
as many fetches as the instruction has bytes, each one machine cycle and one byte of `PC`. -/
def Obligations.StepRunsDecodedInstruction : Prop :=
  ∀ (s : State) (i : Instr) (rest : List Byte), s.ctl.status = .running → (wake s).ctl.halt = false →
    (s.ctl.ime && interruptPending s) = false → decode (fetchedBytes (wake s)) = .ok (i, rest) →
    step s = exec i (setPc ((wake s).regs.pc + BitVec.ofNat 16 (encode i).length) (cycles (encode i).length (wake s)))

/-- A step has a next state exactly while the machine runs; in a terminal status it stops, and nothing is refused (R283,
R302). That a terminal state has no successor is a decision of the spec (D8, D9). -/
def Obligations.StepExactlyWhileRunning : Prop :=
  ∀ s : State, ((∃ t, step s = .next t) ↔ s.ctl.status = .running) ∧
    (s.ctl.status ≠ .running → step s = .fault (.terminal s.ctl.status))

/-- A halted CPU with no enabled request pending spends one machine cycle and keeps its registers; with one pending, it
steps as if it had not been halted, whatever `IME` (R290, R291). The order of the test is a decision of the spec
(D6). -/
def Obligations.HaltIdlesUntilRequest : Prop :=
  ∀ s : State, s.ctl.status = .running → s.ctl.halt = true →
    (interruptPending s = false → ∃ t, step s = .next t ∧ t.regs = s.regs ∧ t.ctl = s.ctl ∧ AgentsOf (cycle s) t ∧
      t.clock = s.clock + 4 ∧ KeepsMemory [] s t) ∧
    (interruptPending s = true → step s = step (setHalt false s))

/-- Interrupt entry (R290 to R293): with `IME` and an enabled request pending, the step clears the request of the lowest
pending source, `IME` and `halt`, lets the internal cycles pass, stores `PC` at `SP - 1` and `SP - 2` and goes to the
source's vector; nothing else of the CPU changes. That entry ends the step, the stack order and the internal cycles are
decisions of the spec (D4, D5, D34). -/
def Obligations.InterruptEntryEffect : Prop :=
  ∀ s : State, s.ctl.status = .running → s.ctl.ime = true → interruptPending s = true →
    ∃ n t, n < 5 ∧ (pendingInterrupts s).getLsbD n = true ∧ (∀ m, m < n → (pendingInterrupts s).getLsbD m = false) ∧
      step s = .next t ∧
      t.regs = { s.regs with sp := s.regs.sp - 2, pc := BitVec.ofNat 16 (0x40 + 8 * n) } ∧
      t.ctl = { s.ctl with ime := false, halt := false } ∧
      AgentsOf
        (pushedAgents s.regs.pc
          (cycles s.params.intEntryInternalMc
            { s with irq := s.irq &&& ~~~((1 : BitVec 5) <<< n) })) t ∧
      t.clock = s.clock + 4 * (s.params.intEntryInternalMc + 2) ∧ KeepsMemory [s.regs.sp - 1, s.regs.sp - 2] s t

/-- Arbitration (R292): when several requests are pending and enabled, the step enters the one with the least number, at
its fixed vector (R285); the others stay pending (unless the push itself overwrites `IRQ`), and since `IME` is then 0 the next
step enters none of them (R290, R293). That entry ends its step, so that the next one fetches, and where the push stores are
decisions of the spec (D4, D34); the address of `IRQ` is general knowledge that the spec adds (log entries 16, 18, 20). -/
def Obligations.LowestPendingFirst : Prop :=
  ∀ (s : State) (n : Nat), s.ctl.status = .running → s.ctl.ime = true → n < 5 →
    (pendingInterrupts s).getLsbD n = true → (∀ m, m < n → (pendingInterrupts s).getLsbD m = false) →
    ∃ t, step s = .next t ∧ t.regs.pc = BitVec.ofNat 16 (0x40 + 8 * n) ∧ t.ctl.ime = false ∧
      (s.regs.sp - 1 ≠ 0xFF0F → s.regs.sp - 2 ≠ 0xFF0F →
        ∀ m, m < 5 → m ≠ n → s.irq.getLsbD m = true → t.irq.getLsbD m = true) ∧
      step t = exec (fetchInstr t).1 (fetchInstr t).2

/-! ### Rules of the whole machine -/

/-- The control state changes only as the rules say, over all instructions: `IME` is set by `EI` and `RETI` and cleared by
`DI` (R25), `halt` is set by `HALT` when a source is enabled (R26, R262), `stop` by `STOP` (R263), and the status leaves
`Running` by `STOP` and the undefined opcodes alone (R27, R280). -/
def Obligations.ControlStateChanges : Prop :=
  ∀ (i : Instr) (s t : State), WellFormed i → exec i s = .next t →
    t.ctl.ime = (if i = .ei ∨ i = .reti then true else if i = .di then false else s.ctl.ime) ∧
    t.ctl.halt = (if i = .halt ∧ s.ie ≠ 0 then true else s.ctl.halt) ∧
    t.ctl.stop = (if i = .stop then true else s.ctl.stop) ∧
    (t.ctl.status = s.ctl.status ∨ i = .stop ∨
      i ∈ [.undefD3, .undefDB, .undefDD, .undefE3, .undefE4, .undefEB, .undefEC, .undefED, .undefF4, .undefFC, .undefFD])

/-- Every state the spec gives for reset meets the invariants: any machine constructed with images in canonical form, and
`State.reset` itself (R47, R51, R52). The values of R52 are decisions of the spec (D10); the parameters of `State.reset`
are the model's choice (log entry 1). -/
def Obligations.ResetMeetsInvariants : Prop :=
  State.reset.Inv ∧ ∀ (p : Params) (s : State), Params.Ok p → State.construct p = .next s → s.Inv

/-- Every step keeps the invariants (R47): `F[3:0] = 0`, `LY` and `ppu_clock` in range and in step, the `STAT` mode the one of
the timeline (R368), `LX` the number of draw ticks (R362), the DMA index, the sprite cache, the memories in canonical form,
the bank register, the mapping, the terminal status. -/
def Obligations.StepKeepsInvariants : Prop :=
  ∀ s t : State, s.Inv → step s = .next t → t.Inv

/-- No step changes the parameters the machine was constructed with (R48), and once the boot ROM is unmapped it stays so
(R35, R47). -/
def Obligations.BootRomNeverReturns : Prop :=
  ∀ s t : State, step s = .next t → t.params = s.params ∧ (s.bootMapped = false → t.bootMapped = false)

/-- The clock counter is looked at modulo 1024 alone (R30): from two states whose clocks differ by a multiple of 1024 a step
gives two states that differ in the same way and in nothing else, so any width of ten bits or more gives the same
behaviour. -/
def Obligations.ClockSeenModulo1024 : Prop :=
  ∀ (s t : State) (k : Nat), step s = .next t →
    step { s with clock := s.clock + 1024 * k } = .next { t with clock := t.clock + 1024 * k }

/-- Every whole instruction takes the machine cycles of the table of R420, its fetches included, taken and not taken, and
never more than six. The counts are the document's where the table says so and general knowledge that the spec adds
elsewhere; their placement is a decision of the spec (D3). -/
def Obligations.MachineCyclesMatchTable : Prop :=
  ∀ (i : Instr) (s t : State), WellFormed i → exec i s = .next t →
    t.clock + 4 * (encode i).length = s.clock + 4 * i.machineCycles s ∧ i.machineCycles s ≤ 6

/-! ### 8-bit loads -/

/-- `LD r,r'` (R131) and `LD r,n` (R132) move a byte and change nothing else, in no machine cycle after the fetches. The byte
map is general knowledge that the spec adds. -/
def Obligations.RegisterLoads : Prop :=
  ∀ (s : State) (dst : Reg8),
    (∀ src, ∃ t, exec (ldInstr (.reg dst) (.reg src)) s = .next t ∧ getReg dst t = getReg src s ∧ OnlyRegs [dst] s t ∧
      AgentsOf s t ∧ KeepsMemory [] s t) ∧
    ∀ n, ∃ t, exec (ldNInstr (.reg dst) n) s = .next t ∧ getReg dst t = n ∧ OnlyRegs [dst] s t ∧ AgentsOf s t ∧
      KeepsMemory [] s t

/-- The loads of a register from memory (R133, R136, R137, R140, R142, R144): `LD r,(HL)`, `LD A,(BC)`, `LD A,(DE)`,
`LD A,(nn)`, `LDH A,(n)`, `LD A,(C)`, one machine cycle, with the address formed before the register is written. Byte map
and operand forms are general knowledge that the spec adds. -/
def Obligations.MemoryLoads : Prop :=
  ∀ s : State,
    (∀ dst, Loads (ldInstr (.reg dst) .atHL) s dst (s.regs.h ++ s.regs.l)) ∧
    Loads .ldAAtBC s .a (s.regs.b ++ s.regs.c) ∧ Loads .ldAAtDE s .a (s.regs.d ++ s.regs.e) ∧
    (∀ nn, Loads (.ldAAtNn nn) s .a nn) ∧
    (∀ n, Loads (.ldhAAtN n) s .a (BitVec.ofNat 16 (0xFF00 + n.toNat))) ∧
    Loads .ldAAtC s .a (BitVec.ofNat 16 (0xFF00 + s.regs.c.toNat))

/-- The stores of a byte (R134, R135, R138, R139, R141, R143, R145): `LD (HL),r`, `LD (HL),n`, `LD (BC),A`, `LD (DE),A`,
`LD (nn),A`, `LDH (n),A`, `LD (C),A`: the write, then its machine cycle, and nothing else. Byte map and operand forms are
general knowledge that the spec adds; that the access precedes its cycle is a decision of the spec (D2). -/
def Obligations.MemoryStores : Prop :=
  ∀ s : State,
    (∀ src, Stores (ldInstr .atHL (.reg src)) s (s.regs.h ++ s.regs.l) (getReg src s)) ∧
    (∀ n, Stores (ldNInstr .atHL n) s (s.regs.h ++ s.regs.l) n) ∧
    Stores .ldAtBCA s (s.regs.b ++ s.regs.c) s.regs.a ∧ Stores .ldAtDEA s (s.regs.d ++ s.regs.e) s.regs.a ∧
    (∀ nn, Stores (.ldAtNnA nn) s nn s.regs.a) ∧
    (∀ n, Stores (.ldhAtNA n) s (BitVec.ofNat 16 (0xFF00 + n.toNat)) s.regs.a) ∧
    Stores .ldAtCA s (BitVec.ofNat 16 (0xFF00 + s.regs.c.toNat)) s.regs.a

/-- `LD (HL+),A`, `LD (HL-),A`, `LD A,(HL+)`, `LD A,(HL-)` (R146 to R149): the access at the old `HL`, then `HL` one higher or
lower modulo 2^16. Byte map and operand forms are general knowledge that the spec adds. -/
def Obligations.SteppingLoadsAndStores : Prop :=
  ∀ s : State,
    (∀ i d, (i = Instr.ldAtHLIncA ∧ d = (1 : Int)) ∨ (i = .ldAtHLDecA ∧ d = -1) →
      ∃ t, exec i s = .next t ∧ hlPair t = BitVec.ofInt 16 ((hlPair s).toNat + d) ∧ OnlyRegs [.h, .l] s t ∧
        AgentsOf (cycle (busWrite s (hlPair s) s.regs.a)) t ∧ KeepsMemory [hlPair s] s t) ∧
    ∀ i d, (i = Instr.ldAAtHLInc ∧ d = (1 : Int)) ∨ (i = .ldAAtHLDec ∧ d = -1) →
      ∃ t, exec i s = .next t ∧ t.regs.a = busRead s (hlPair s) ∧ hlPair t = BitVec.ofInt 16 ((hlPair s).toNat + d) ∧
        OnlyRegs [.a, .h, .l] s t ∧ AgentsOf (cycle s) t ∧ KeepsMemory [] s t

/-! ### 16-bit loads and the stack -/

/-- `LD rr,nn` (R160) writes the pair, high byte to the first-named register (R21); `LD SP,HL` (R162) writes `SP`, one machine
cycle later; `LD (nn),SP` (R161) stores the low byte of `SP` at `nn` and the high byte at `nn + 1` modulo 2^16, in two machine
cycles. Byte map, counts and byte order are general knowledge that the spec adds. -/
def Obligations.PairLoadsAndStore : Prop :=
  ∀ s : State,
    (∀ p nn, ∃ t, exec (ldPairInstr p nn) s = .next t ∧ getPair p t = nn ∧
      (p = .bc → t.regs.b = upperByte nn) ∧ (p = .de → t.regs.d = upperByte nn) ∧ (p = .hl → t.regs.h = upperByte nn) ∧
      KeepsRegs (pairRegs p) s t ∧ KeepsF s t ∧ (p ≠ .sp → KeepsSp s t) ∧ KeepsPc s t ∧ KeepsCtl s t ∧ AgentsOf s t ∧
      KeepsMemory [] s t) ∧
    (∃ t, exec .ldSPHL s = .next t ∧ t.regs = { s.regs with sp := s.regs.h ++ s.regs.l } ∧ KeepsCtl s t ∧
      AgentsOf (cycle s) t ∧ KeepsMemory [] s t) ∧
    ∀ nn, ∃ t, exec (.ldAtNnSP nn) s = .next t ∧ OnlyRegs [] s t ∧
      AgentsOf (memWrite (nn + 1) (upperByte s.regs.sp) (memWrite nn (lowerByte s.regs.sp) s)) t ∧
      KeepsMemory [nn, nn + 1] s t

/-- `PUSH rr` (R164): one machine cycle, then the high byte at `SP - 1` and the low byte at `SP - 2`, and `SP` two lower. The
order of the bytes and of the internal cycle is a decision of the spec (D3, D34). -/
def Obligations.PushStoresPair : Prop :=
  ∀ (s : State) (p : StackPair), ∃ t, exec (pushInstr p) s = .next t ∧
    t.regs = { s.regs with sp := s.regs.sp - 2 } ∧ KeepsCtl s t ∧ AgentsOf (pushedAgents (getStackPair p s) (cycle s)) t ∧
    KeepsMemory [s.regs.sp - 1, s.regs.sp - 2] s t

/-- `POP rr` (R165, R166): the low byte from `SP`, the high byte from `SP + 1`, `SP` two higher; `POP AF` clears the low four
bits of `F` (R22). The order of the bytes is a decision of the spec (D34). -/
def Obligations.PopLoadsPair : Prop :=
  ∀ (s : State) (p : StackPair), ∃ t, exec (popInstr p) s = .next t ∧
    t.regs =
      (match p with
        | .bc => { s.regs with sp := s.regs.sp + 2, b := upperByte (poppedWord s), c := lowerByte (poppedWord s) }
        | .de => { s.regs with sp := s.regs.sp + 2, d := upperByte (poppedWord s), e := lowerByte (poppedWord s) }
        | .hl => { s.regs with sp := s.regs.sp + 2, h := upperByte (poppedWord s), l := lowerByte (poppedWord s) }
        | .af =>
          { s.regs with sp := s.regs.sp + 2, a := upperByte (poppedWord s), f := lowerByte (poppedWord s) &&& 0xF0 }) ∧
    KeepsCtl s t ∧ AgentsOf (cycles 2 s) t ∧ KeepsMemory [] s t

/-- `LD HL,SP+e` (R163) and `ADD SP,e` (R203): the signed sum modulo 2^16, `Z` and `N` cleared, `Hf` and `Cf` from the unsigned
sum of the low byte of `SP` and the byte `e`. The exact carry formulas are general knowledge that the spec adds. -/
def Obligations.StackPointerOffset : Prop :=
  ∀ (s : State) (e : Byte),
    let sum : Word := BitVec.ofInt 16 (s.regs.sp.toNat + e.toInt)
    let fl : Flags :=
      { z := false, n := false, h := decide (s.regs.sp.toNat % 16 + e.toNat % 16 > 15),
        c := decide (s.regs.sp.toNat % 256 + e.toNat > 255) }
    (∃ t, exec (.ldHLSPE e) s = .next t ∧ hlPair t = sum ∧ OnlyRegsAndFlags [.h, .l] fl s t ∧ AgentsOf (cycle s) t ∧
      KeepsMemory [] s t) ∧
    ∃ t, exec (.addSPE e) s = .next t ∧ t.regs.sp = sum ∧ KeepsRegs [] s t ∧ WritesFlags fl s t ∧ KeepsPc s t ∧
      KeepsCtl s t ∧ AgentsOf (cycles 2 s) t ∧ KeepsMemory [] s t

/-! ### 8-bit arithmetic and logic -/

/-- `ADD A,v` and `ADC A,v` in every operand form (R170 to R172): the sum modulo 256 with the incoming carry for `ADC`, `Hf` the
carry out of bit 3, `Cf` the carry out of bit 7, `N` cleared. The carry definitions are general knowledge that the spec
adds. -/
def Obligations.AdditionResults : Prop :=
  ∀ (s : State) (op : AluOp) (c : Nat), (op = .add ∧ c = 0) ∨ (op = .adc ∧ c = if s.regs.f.getLsbD 4 then 1 else 0) →
    AluForms op s fun i v k =>
      AccResult i s k (BitVec.ofNat 8 (s.regs.a.toNat + v.toNat + c))
        { z := decide ((s.regs.a.toNat + v.toNat + c) % 256 = 0), n := false,
          h := decide (s.regs.a.toNat % 16 + v.toNat % 16 + c > 15), c := decide (s.regs.a.toNat + v.toNat + c > 255) }

/-- `SUB v`, `SBC A,v` and `CP v` in every operand form (R173, R174, R178): the difference modulo 256 with the incoming carry for
`SBC`, `A` kept by `CP`, `Hf` and `Cf` the borrows, `N` set; `CP` sets the flags of `SUB`. The borrow definitions are
general knowledge that the spec adds. -/
def Obligations.SubtractionResults : Prop :=
  ∀ (s : State) (op : AluOp) (c : Nat),
    ((op = .sub ∨ op = .cp) ∧ c = 0) ∨ (op = .sbc ∧ c = if s.regs.f.getLsbD 4 then 1 else 0) →
    AluForms op s fun i v k =>
      let diff : Int := s.regs.a.toNat - v.toNat - c
      AccResult i s k (if op = .cp then s.regs.a else BitVec.ofInt 8 diff)
        { z := decide (diff % 256 = 0), n := true, h := decide (s.regs.a.toNat % 16 < v.toNat % 16 + c),
          c := decide (diff < 0) }

/-- `AND v`, `XOR v`, `OR v` (R175, R176, R177) in every operand form: their bytes, the result bit by bit, `Z` from it, `N`
cleared, `Hf` set by `AND` alone, `Cf` cleared, nothing raised, and one further machine cycle for `(HL)` alone (R170). The
bytes and the machine cycles of the `(HL)` and `n` forms are general knowledge that the spec adds (log entries 14, 15). -/
def Obligations.LogicResults : Prop :=
  ((∀ k, k < 8 → encode (aluInstr .and (operandOf k)) = [BitVec.ofNat 8 (0xA0 + k)] ∧
      encode (aluInstr .xor (operandOf k)) = [BitVec.ofNat 8 (0xA8 + k)] ∧
      encode (aluInstr .or (operandOf k)) = [BitVec.ofNat 8 (0xB0 + k)]) ∧
    ∀ n, encode (aluNInstr .and n) = [0xE6, n] ∧ encode (aluNInstr .xor n) = [0xEE, n] ∧
      encode (aluNInstr .or n) = [0xF6, n]) ∧
  ∀ s : State,
    (AluForms .and s fun i v k =>
      AccResult i s k (s.regs.a &&& v) { z := decide (s.regs.a &&& v = 0), n := false, h := true, c := false }) ∧
    (AluForms .xor s fun i v k =>
      AccResult i s k (s.regs.a ^^^ v) { z := decide (s.regs.a ^^^ v = 0), n := false, h := false, c := false }) ∧
    AluForms .or s fun i v k =>
      AccResult i s k (s.regs.a ||| v) { z := decide (s.regs.a ||| v = 0), n := false, h := false, c := false }

/-- `INC` and `DEC` of a register and of `(HL)` (R180 to R183): one more or less modulo 256, `Z` from the result, `N` 0 or 1, `Hf`
the carry out of bit 3 or the borrow into bit 4, `Cf` unchanged. The half-carry definitions are general knowledge that
the spec adds. -/
def Obligations.IncrementDecrementResults : Prop :=
  ∀ s : State,
    Replaces incInstr s (fun v => BitVec.ofNat 8 (v.toNat + 1)) (fun v =>
      { z := decide (v.toNat = 255), n := false, h := decide (v.toNat % 16 = 15), c := s.regs.f.getLsbD 4 }) ∧
    Replaces decInstr s (fun v => BitVec.ofInt 8 (v.toNat - 1)) (fun v =>
      { z := decide (v.toNat = 1), n := true, h := decide (v.toNat % 16 = 0), c := s.regs.f.getLsbD 4 })

/-- `DAA`, `CPL`, `SCF`, `CCF` (R185 to R188). `DAA` subtracts or adds the correction that the flags and the original `A` call
for, keeps `N`, clears `Hf`, and leaves `Cf` set exactly when the correction is at least 0x60. The definitions are general
knowledge that the spec adds. -/
def Obligations.AccumulatorAdjustments : Prop :=
  ∀ s : State,
    let a := s.regs.a.toNat
    let n := s.regs.f.getLsbD 6
    let big := s.regs.f.getLsbD 4 || (!n && decide (a > 0x99))
    let small := s.regs.f.getLsbD 5 || (!n && decide (a % 16 > 9))
    let corr : Int := (if big then 0x60 else 0) + (if small then 6 else 0)
    let r : Byte := BitVec.ofInt 8 (if n then a - corr else a + corr)
    AccResult .daa s 0 r { z := decide (r.toNat = 0), n := n, h := false, c := big } ∧
    AccResult .cpl s 0 (BitVec.ofNat 8 (255 - a)) { z := s.regs.f.getLsbD 7, n := true, h := true, c := s.regs.f.getLsbD 4 } ∧
    AccResult .scf s 0 s.regs.a { z := s.regs.f.getLsbD 7, n := false, h := false, c := true } ∧
    AccResult .ccf s 0 s.regs.a { z := s.regs.f.getLsbD 7, n := false, h := false, c := !s.regs.f.getLsbD 4 }

/-- `DAA` after `ADD A,B` gives the decimal sum (R171, R185): for packed decimal operands `x` and `y`, `A` ends with the two
digits of `x + y` and `Cf` with the hundred. The `DAA` algorithm and the carries of `ADD` are general knowledge that the spec
adds (G7, G10, log entry 15). -/
def Obligations.DecimalAdditionAdjusts : Prop :=
  ∀ (s t u : State) (x y : Nat), x < 100 → y < 100 → s.regs.a = packedDecimal x → s.regs.b = packedDecimal y →
    exec .addAB s = .next t → exec .daa t = .next u →
    u.regs.a = packedDecimal ((x + y) % 100) ∧ u.flags.c = decide (100 ≤ x + y)

/-! ### 16-bit arithmetic -/

/-- `ADD HL,rr` (R200), `INC rr` (R201), `DEC rr` (R202), one machine cycle each: `ADD HL` sets `Hf` and `Cf` from bits 11 and 15,
clears `N` and keeps `Z`; the others keep all of `F`. Counts and the flags of `INC rr` and `DEC rr` are general knowledge
that the spec adds. -/
def Obligations.PairArithmetic : Prop :=
  ∀ (s : State) (p : Pair),
    let hl := (hlPair s).toNat
    let v := (getPair p s).toNat
    (∃ t, exec (addHLInstr p) s = .next t ∧ hlPair t = BitVec.ofNat 16 (hl + v) ∧
      OnlyRegsAndFlags [.h, .l]
        { z := s.regs.f.getLsbD 7, n := false, h := decide (hl % 4096 + v % 4096 > 4095), c := decide (hl + v > 65535) } s t ∧
      AgentsOf (cycle s) t ∧ KeepsMemory [] s t) ∧
    ∀ i d, (i = incPairInstr p ∧ d = (1 : Int)) ∨ (i = decPairInstr p ∧ d = -1) →
      ∃ t, exec i s = .next t ∧ getPair p t = BitVec.ofInt 16 (v + d) ∧ KeepsRegs (pairRegs p) s t ∧ KeepsF s t ∧
        (p ≠ .sp → KeepsSp s t) ∧ KeepsPc s t ∧ KeepsCtl s t ∧ AgentsOf (cycle s) t ∧ KeepsMemory [] s t

/-! ### Rotates, shifts and bits -/

/-- `RLCA`, `RRCA`, `RLA`, `RRA` (R210 to R213): bit by bit the rotate of `A`, `Cf` the bit moved out, `Z`, `N`, `Hf` cleared. The
bit movement is general knowledge that the spec adds. -/
def Obligations.AccumulatorRotates : Prop :=
  ∀ (s : State) (i : Instr) (op : RotOp),
    (i, op) ∈ [(.rlca, .rlc), (.rrca, .rrc), (.rla, .rl), (.rra, .rr)] →
    AccResult i s 0 (rotated op s.regs.a (s.regs.f.getLsbD 4))
      { z := false, n := false, h := false, c := rotatedCarry op s.regs.a }

/-- The eight `CB` rotates and shifts in every operand form (R219 to R227): bit by bit the result, `Z` from it, `N` and `Hf` cleared,
`Cf` the bit moved out, none for `SWAP`. The bit movement is general knowledge that the spec adds. -/
def Obligations.PrefixedRotates : Prop :=
  ∀ (s : State) (op : RotOp),
    Replaces (rotInstr op) s (fun v => rotated op v (s.regs.f.getLsbD 4)) (fun v =>
      { z := decide ((rotated op v (s.regs.f.getLsbD 4)).toNat = 0), n := false, h := false, c := rotatedCarry op v })

/-- `BIT b,r` (R228) writes nothing but the flags: `Z` the complement of the bit, `N` 0, `Hf` 1, `Cf` kept; its `(HL)` form takes
one read. `RES b,r` (R229) and `SET b,r` (R230) make bit `b` 0 or 1 and keep every other bit and all of `F`. That `F` stays
is general knowledge that the spec adds. -/
def Obligations.BitOperations : Prop :=
  ∀ (s : State) (b : Fin 8),
    (∀ r, ∃ t, exec (bitInstr b (.reg r)) s = .next t ∧
      OnlyRegsAndFlags [] { z := !(getReg r s).getLsbD b, n := false, h := true, c := s.regs.f.getLsbD 4 } s t ∧
      AgentsOf s t ∧ KeepsMemory [] s t) ∧
    (∃ t, exec (bitInstr b .atHL) s = .next t ∧
      OnlyRegsAndFlags [] { z := !(busRead s (hlPair s)).getLsbD b, n := false, h := true, c := s.regs.f.getLsbD 4 } s t ∧
      AgentsOf (cycle s) t ∧ KeepsMemory [] s t) ∧
    ∃ clearBit raiseBit : Byte → Byte,
      (∀ v (j : Fin 8), (clearBit v).getLsbD j = (if j = b then false else v.getLsbD j) ∧
        (raiseBit v).getLsbD j = (if j = b then true else v.getLsbD j)) ∧
      Replaces (resInstr b) s clearBit (fun _ => s.flags) ∧ Replaces (setInstr b) s raiseBit (fun _ => s.flags)

/-! ### Jumps, calls and returns -/

/-- `JP nn`, `JP HL`, `JR e` and the conditional `JP cc,nn`, `JR cc,e` (R240 to R244): `PC` at the target, one machine cycle more,
none for `JP HL`; a condition that fails leaves `PC` past the instruction. Counts are general knowledge that the spec
adds, but for `JR cc,e`. -/
def Obligations.JumpTargets : Prop :=
  ∀ (s : State) (nn : Word) (e : Byte),
    let relative : Word := BitVec.ofInt 16 (s.regs.pc.toNat + e.toInt)
    JumpsTo (.jpNn nn) s nn 1 ∧ JumpsTo .jpHL s (s.regs.h ++ s.regs.l) 0 ∧ JumpsTo (.jrE e) s relative 1 ∧
    ∀ cc taken, taken = (match cc with
        | .nz => !s.regs.f.getLsbD 7
        | .z => s.regs.f.getLsbD 7
        | .nc => !s.regs.f.getLsbD 4
        | .c => s.regs.f.getLsbD 4) →
      JumpsTo (jpInstr cc nn) s (if taken then nn else s.regs.pc) (if taken then 1 else 0) ∧
      JumpsTo (jrInstr cc e) s (if taken then relative else s.regs.pc) (if taken then 1 else 0)

/-- `CALL nn`, `CALL cc,nn` and `RST t` (R245, R246, R250): one machine cycle, `PC` pushed, control at the target, `y * 8` for `RST`; a
condition that fails touches neither `SP` nor the stack. The order of cycle and bytes is a decision of the spec (D3,
D34). -/
def Obligations.CallsPushReturnAddress : Prop :=
  ∀ (s : State) (nn : Word),
    CallsTo (.callNn nn) s nn ∧ (∀ y : Fin 8, CallsTo (rstInstr y) s (BitVec.ofNat 16 (8 * y.val))) ∧
    ∀ cc, (condHolds cc s = true → CallsTo (callInstr cc nn) s nn) ∧
      (condHolds cc s = false → JumpsTo (callInstr cc nn) s s.regs.pc 0)

/-- `RET`, `RETI` and `RET cc` (R247, R248, R249): `PC` popped and one machine cycle; `RETI` sets `IME` besides; `RET cc` spends one
machine cycle before its condition, and a condition that fails leaves `SP`. What distinguishes `RETI` is general
knowledge that the spec adds, the order of the bytes and cycles a decision of the spec (D3, D7, D34). -/
def Obligations.ReturnsPopAddress : Prop :=
  ∀ s : State,
    (∃ t, exec .ret s = .next t ∧ t.regs = { s.regs with sp := s.regs.sp + 2, pc := poppedWord s } ∧ KeepsCtl s t ∧
      AgentsOf (cycles 3 s) t ∧ KeepsMemory [] s t) ∧
    (∃ t, exec .reti s = .next t ∧ t.regs = { s.regs with sp := s.regs.sp + 2, pc := poppedWord s } ∧
      t.ctl = { s.ctl with ime := true } ∧ AgentsOf (cycles 3 s) t ∧ KeepsMemory [] s t) ∧
    ∀ cc, (condHolds cc s = false → JumpsTo (retInstr cc) s s.regs.pc 1) ∧
      (condHolds cc s = true → ∃ t, exec (retInstr cc) s = .next t ∧
        t.regs = { s.regs with sp := s.regs.sp + 2, pc := poppedWord (cycle s) } ∧ KeepsCtl s t ∧ AgentsOf (cycles 4 s) t ∧
        KeepsMemory [] s t)

/-! ### System instructions -/

/-- `DI` (R264): one byte `F3`, one machine cycle, `IME` cleared and nothing else, no request lost; and since it takes effect at
once, the next step of a running, unhalted machine enters no interrupt. The byte is general knowledge that the spec adds (G1, log entry
15). -/
def Obligations.DiMasksAtOnce : Prop :=
  encode .di = [0xF3] ∧ Instr.cycleCounts .di = (1, 1) ∧
  ∀ s : State, ∃ t, exec .di s = .next t ∧ t = { s with ctl := { s.ctl with ime := false } } ∧ KeepsMemory [] s t ∧
    (t.ctl.status = .running → t.ctl.halt = false → step t = exec (fetchInstr t).1 (fetchInstr t).2)

/-- `NOP` (R260) changes nothing; `EI` (R265) sets `IME` at once, so the next step of a running machine enters an enabled pending
request; `HALT` (R262) sets `halt` when a source is enabled, whatever is pending, and otherwise skips the next byte. That
`EI` has no delay, and how `HALT` ends, are decisions of the spec (D6, D7, D36). -/
def Obligations.NopEnableAndHalt : Prop :=
  ∀ s : State, exec .nop s = .next s ∧
    (∃ t, exec .ei s = .next t ∧ t = { s with ctl := { s.ctl with ime := true } } ∧ KeepsMemory [] s t ∧
      (t.ctl.status = .running → interruptPending t = true → step t = .next (interruptEntry (setHalt false t)))) ∧
    ∃ t, exec .halt s = .next t ∧ AgentsOf s t ∧ KeepsMemory [] s t ∧
      ((∃ n, n < 5 ∧ s.ie.getLsbD n = true) → t.regs = s.regs ∧ t.ctl = { s.ctl with halt := true }) ∧
      ((∀ n, n < 5 → s.ie.getLsbD n = false) → t.regs = { s.regs with pc := s.regs.pc + 1 } ∧ t.ctl = s.ctl)

/-- `STOP` (R263, R282) and the eleven undefined opcodes (R267, R281): the terminal status with the recorded values, `stop` for
`STOP`, and nothing else; the step after has no successor (R283). That the machine ends so, and which address is
recorded, are decisions of the spec (D8, D9). -/
def Obligations.TerminalInstructions : Prop :=
  ∀ s : State,
    (∃ t, exec .stop s = .next t ∧ t.regs = s.regs ∧ t.ctl = { s.ctl with stop := true, status := .stopExecuted } ∧
      AgentsOf s t ∧ KeepsMemory [] s t ∧ step t = .fault (.terminal .stopExecuted)) ∧
    ∀ (i : Instr) (byte : Byte),
      (i, byte) ∈ [(.undefD3, 0xD3), (.undefDB, 0xDB), (.undefDD, 0xDD), (.undefE3, 0xE3), (.undefE4, 0xE4),
        (.undefEB, 0xEB), (.undefEC, 0xEC), (.undefED, 0xED), (.undefF4, 0xF4), (.undefFC, 0xFC), (.undefFD, 0xFD)] →
      ∃ t, exec i s = .next t ∧ t.regs = s.regs ∧
        t.ctl = { s.ctl with status := .undefinedOpcode byte (s.regs.pc - 1) } ∧ AgentsOf s t ∧ KeepsMemory [] s t ∧
        step t = .fault (.terminal (.undefinedOpcode byte (s.regs.pc - 1)))

/-- The prefix (R266): it fetches one byte, in one machine cycle with `PC` one further, and runs the instruction that byte selects in
the `CB` table; the result is a next state for every second byte. That the prefix entry of the primary table is left out
of the fetch is a decision of the spec (D37). -/
def Obligations.PrefixRunsSecondByte : Prop :=
  ∀ s : State, ∃ t, exec .prefixCB s = .next t ∧
    exec (decodeCB (busRead s s.regs.pc)) { cycle s with regs := { s.regs with pc := s.regs.pc + 1 } } = .next t ∧
    t.ctl = s.ctl ∧ t.regs.pc = s.regs.pc + 1 ∧ KeepsMemory [hlPair s] s t

/-! ### Memory, the cartridge, the devices -/

/-- The bank-0 cartridge (R80, R81): a read of `0x0000` to `0x7FFF` that the boot ROM does not answer indexes the image and gives `0xFF`
beyond it, external RAM reads `0xFF`, and every write to both ranges is ignored. -/
def Obligations.BankZeroCartridge : Prop :=
  ∀ (s : State) (image : List Byte) (a : Word) (v : Byte), s.params.cartKind = .rom0 →
    s.params.cartRom = Memory.ofBytes .cartRom image →
    (a.toNat < 0x8000 → (s.bootMapped = true → 0x100 ≤ a.toNat) → busRead s a = image.getD a.toNat 0xFF) ∧
    (0xA000 ≤ a.toNat → a.toNat < 0xC000 → busRead s a = 0xFF) ∧
    (a.toNat < 0x8000 ∨ (0xA000 ≤ a.toNat ∧ a.toNat < 0xC000) → busWrite s a v = s)

/-- The MBC1 registers (R83, R84): a write to `0x2000` to `0x3FFF` keeps all eight bits of the bank and sets bit 0 when the low five are
zero, so that after `0x00`, `0x01` and `0x20` reads of `0x4000` index banks 1, 1 and 33; a write to `0x0000` to `0x1FFF`
enables external RAM exactly when its low nibble is `0xA`. Neither changes anything else. That all eight bits are kept is the
spec's resolution of a conflict (C6); the offset of a bank and `0xFF` beyond the image (R82) are decisions of the spec (D32,
log entry 28). -/
def Obligations.BankControllerRegisters : Prop :=
  ∀ (s : State) (a : Word) (v : Byte), s.params.cartKind = .mbc1 → (s.bootMapped = true → 0x100 ≤ a.toNat) →
    (0x2000 ≤ a.toNat → a.toNat < 0x4000 →
      busWrite s a v =
        { s with mbc := { s.mbc with bank := if v.toNat % 32 = 0 then BitVec.ofNat 8 (v.toNat + 1) else v } } ∧
      ∀ (image : List Byte) (written : Byte) (bank : Nat), s.params.cartRom = Memory.ofBytes .cartRom image →
        (written, bank) ∈ [((0x00 : Byte), 1), (0x01, 1), (0x20, 33)] →
        busRead (busWrite s a written) 0x4000 = image.getD (bank * 0x4000) 0xFF) ∧
    (a.toNat < 0x2000 → busWrite s a v = { s with mbc := { s.mbc with ramEnable := decide (v.toNat % 16 = 10) } })

/-- The MBC1 windows (R82, R85, R86): bank 0 below `0x4000`, bank `mbc.bank` above, `0xFF` beyond the image; external RAM stores and
answers when enabled, and otherwise reads `0xFF` and drops writes; writes to `0x4000` to `0x7FFF` do nothing. The image
bound, one RAM bank and the ignored writes are decisions of the spec (D32). -/
def Obligations.BankControllerWindows : Prop :=
  ∀ (s : State) (image : List Byte) (a : Word) (v : Byte), s.params.cartKind = .mbc1 → s.mems.Ok →
    s.params.cartRom = Memory.ofBytes .cartRom image →
    (a.toNat < 0x4000 → (s.bootMapped = true → 0x100 ≤ a.toNat) → busRead s a = image.getD a.toNat 0xFF) ∧
    (0x4000 ≤ a.toNat → a.toNat < 0x8000 →
      busRead s a = image.getD (s.mbc.bank.toNat * 0x4000 + (a.toNat - 0x4000)) 0xFF ∧ busWrite s a v = s) ∧
    (0xA000 ≤ a.toNat → a.toNat < 0xC000 →
      (s.mbc.ramEnable = true → busRead (busWrite s a v) a = v) ∧
      (s.mbc.ramEnable = false → busRead s a = 0xFF ∧ busWrite s a v = s))

/-- Work RAM and its echo (R65): `0xC000` to `0xFDFF` is byte `addr mod 0x2000` of `WRAM`, so `0xC000 + k` and `0xE000 + k` are one byte
for every `k` below `0x1E00`, for reads and for writes, and the bytes from `0x1E00` on are reached by `0xDE00` to `0xDFFF`
alone. -/
def Obligations.WorkRamEcho : Prop :=
  ∀ s : State,
    (∀ a : Word, 0xC000 ≤ a.toNat → a.toNat < 0xFE00 → deviceAt s.bootMapped a = .wram (a.toNat % 0x2000)) ∧
    (∀ k : Nat, k < 0x1E00 →
      busRead s (BitVec.ofNat 16 (0xC000 + k)) = busRead s (BitVec.ofNat 16 (0xE000 + k)) ∧
      ∀ v, busWrite s (BitVec.ofNat 16 (0xC000 + k)) v = busWrite s (BitVec.ofNat 16 (0xE000 + k)) v) ∧
    ∀ (a : Word) (j : Nat), 0x1E00 ≤ j → deviceAt s.bootMapped a = .wram j → 0xDE00 ≤ a.toNat ∧ a.toNat ≤ 0xDFFF

/-- Unmapped space (R66): `0xFEA0` to `0xFEFF`, `0xFF10` to `0xFF3F` and `0xFF4C` to `0xFF7F` read `0xFF` in every state, and a write
there changes nothing, but for `0xFF50`. -/
def Obligations.UnmappedSpace : Prop :=
  ∀ (s : State) (a : Word) (v : Byte),
    ((0xFEA0 ≤ a.toNat ∧ a.toNat ≤ 0xFEFF) ∨ (0xFF10 ≤ a.toNat ∧ a.toNat ≤ 0xFF3F) ∨
      (0xFF4C ≤ a.toNat ∧ a.toNat ≤ 0xFF7F)) →
    busRead s a = 0xFF ∧ (a ≠ 0xFF50 → busWrite s a v = s)

/-- The boot ROM (R64, R69): while it is mapped, `0x0000` to `0x00FF` read its image and drop writes; a write of a nonzero value to
`0xFF50` unmaps it and changes nothing else, a write of zero does nothing, and `0xFF50` reads `0xFF`. That writes below it
are dropped is a decision of the spec (D12), that a write of zero does nothing its resolution of a conflict and a decision
(C2, D12, log entry 21), and the 0 beyond an image of fewer than 256 bytes the model's choice (log entry 5). -/
def Obligations.BootRomOverlay : Prop :=
  ∀ (s : State) (image : List Byte) (a : Word) (v : Byte),
    (s.bootMapped = true → s.params.bootRom = some (Memory.ofBytes .bootRom image) → a.toNat < 0x100 →
      busRead s a = image.getD a.toNat 0 ∧ busWrite s a v = s) ∧
    (v ≠ 0 → busWrite s 0xFF50 v = { s with bootMapped := false }) ∧ busWrite s 0xFF50 0 = s ∧ busRead s 0xFF50 = 0xFF

/-- Memory (R31, R36, R38, R61, R62, R74, R77): a CPU write to `VRAM`, `WRAM`, its echo, `OAM` or `HRAM` is read back before any tick,
and but for `OAM`, which a transfer may write, after its machine cycle too; a CPU write anywhere leaves every byte that it
does not reach and no agent changes. The bytes of `VRAM` and `OAM` that the bus shows are the ones the PPU reads (R78). -/
def Obligations.RamReadsBackWrites : Prop :=
  ∀ (s : State) (a : Word) (v : Byte), s.mems.Ok →
    (plainRam a = true ∨ (0xFE00 ≤ a.toNat ∧ a.toNat < 0xFEA0) → busRead (busWrite s a v) a = v) ∧
    (plainRam a = true → busRead (memWrite a v s) a = v) ∧ KeepsMemory [a] s (memWrite a v s) ∧
    (0x8000 ≤ a.toNat → a.toNat < 0xA000 → busRead s a = vramByte s.mems (a.toNat - 0x8000)) ∧
    (0xFE00 ≤ a.toNat → a.toNat < 0xFEA0 → busRead s a = oamByte s.mems (a.toNat - 0xFE00))

/-- The register table (R53) read back after a write, before any tick: what each register stores of `v`, and the ones that ignore it.
Most addresses are general knowledge that the spec adds (G20, log entry 20). Decisions of the spec are the unimplemented bits
and the read of `0xFF46` (D14, D22), the ignored write to `LY` and the stored `LYC` (D23), the palettes as bytes (D41), and
that the serial stub and the addresses without a register read `0xFF` and ignore writes (R67, D13, log entry 19). -/
def Obligations.DeviceRegistersStore : Prop :=
  ∀ (s : State) (v : Byte),
    (∀ a ∈ [(0xFF05 : Word), 0xFF06, 0xFF40, 0xFF42, 0xFF43, 0xFF45, 0xFF46, 0xFF47, 0xFF48, 0xFF49, 0xFF4A, 0xFF4B],
      busRead (busWrite s a v) a = v) ∧
    (∀ a ∈ [(0xFF0F : Word), 0xFFFF], (busRead (busWrite s a v) a).toNat = v.toNat % 32) ∧
    (busRead (busWrite s 0xFF07 v) 0xFF07).toNat = v.toNat % 8 ∧ busRead (busWrite s 0xFF04 v) 0xFF04 = 0 ∧
    busRead (busWrite s 0xFF41 v) 0xFF41 = v &&& 0x78 ||| busRead s 0xFF41 &&& 0x03 ∧ busWrite s 0xFF44 v = s ∧
    (∀ a ∈ [(0xFF01 : Word), 0xFF02, 0xFF03, 0xFF08, 0xFF09, 0xFF0A, 0xFF0B, 0xFF0C, 0xFF0D, 0xFF0E],
      busRead s a = 0xFF ∧ busWrite s a v = s)

/-- Joypad select (R340): a write to `0xFF00` selects the buttons by a 0 in bit 5 and the D-pad by a 0 in bit 4, discards every other
bit, and changes nothing else; `0x30`, `0x20`, `0x10`, `0x00` select none, the D-pad, the buttons, both. -/
def Obligations.JoypadSelectWrite : Prop :=
  ∀ (s : State) (v : Byte), ∃ j : Joypad,
    busWrite s 0xFF00 v = { s with joypad := j } ∧ j.pad = s.joypad.pad ∧
    (j.button = true ↔ v.toNat / 32 % 2 = 0) ∧ (j.dpad = true ↔ v.toNat / 16 % 2 = 0)

/-- Joypad read and the host (R341, R343): `0xFF00` reads two zero bits, the select bits active low, and the selected keys active low;
`UpdatePad` latches the pad, raises request 4 exactly on the change from no key to some key, and changes nothing else. The
key bits are general knowledge that the spec adds, the transition and its place decisions of the spec (D14, D18, D31). -/
def Obligations.JoypadReadAndUpdate : Prop :=
  ∀ (s : State) (g : Pad),
    (let r := busRead s 0xFF00
      let b := s.joypad.button
      let d := s.joypad.dpad
      let k := s.joypad.pad
      r.getLsbD 7 = false ∧ r.getLsbD 6 = false ∧ r.getLsbD 5 = !b ∧ r.getLsbD 4 = !d ∧
        (r.getLsbD 3 = false ↔ (b = true ∧ k.start = true) ∨ (d = true ∧ k.down = true)) ∧
        (r.getLsbD 2 = false ↔ (b = true ∧ k.select = true) ∨ (d = true ∧ k.up = true)) ∧
        (r.getLsbD 1 = false ↔ (b = true ∧ k.b = true) ∨ (d = true ∧ k.left = true)) ∧
        (r.getLsbD 0 = false ↔ (b = true ∧ k.a = true) ∨ (d = true ∧ k.right = true))) ∧
    ∃ irq, updatePad g s = { s with joypad := { s.joypad with pad := g }, irq := irq } ∧
      (∀ n, n < 4 → irq.getLsbD n = s.irq.getLsbD n) ∧
      (irq.getLsbD 4 = true ↔ s.irq.getLsbD 4 = true ∨ (s.joypad.pad = Pad.released ∧ g ≠ Pad.released))

/-- The timer in one tick (R315, R316, R317): `DIV` counts every 256th tick of the clock, `TIMA` every 1024th, 16th, 64th or 256th while
`TAC[2]` is set, and its overflow reloads it from `TMA` and raises request 2 in the same tick. The phase is a decision of
the spec (D15). -/
def Obligations.TimerTicks : Prop :=
  ∀ s : State,
    let n := s.clock + 1
    let period := if s.timer.tac.toNat % 4 = 0 then 1024 else 4 * 4 ^ (s.timer.tac.toNat % 4)
    let counts := 4 ≤ s.timer.tac.toNat ∧ n % period = 0
    (tick s).clock = n ∧ (tick s).timer.tma = s.timer.tma ∧ (tick s).timer.tac = s.timer.tac ∧
    (tick s).timer.div.toNat = (if n % 256 = 0 then (s.timer.div.toNat + 1) % 256 else s.timer.div.toNat) ∧
    (counts → s.timer.tima = 0xFF → (tick s).timer.tima = s.timer.tma ∧ (tick s).irq.getLsbD 2 = true) ∧
    (counts → s.timer.tima ≠ 0xFF → (tick s).timer.tima.toNat = s.timer.tima.toNat + 1 ∧
      (tick s).irq.getLsbD 2 = s.irq.getLsbD 2) ∧
    (¬counts → (tick s).timer.tima = s.timer.tima ∧ (tick s).irq.getLsbD 2 = s.irq.getLsbD 2)

/-- OAM-DMA (R330 to R333): a write of page `v` to `0xFF46`, with no further CPU access, has copied all 160 bytes of the page, as the bus
gave them before the write, at the end of the 40th machine cycle counting the write's own, and not before; then the
transfer is over. Page `0xFF`, which holds registers that move, is left out. The rate and the start are decisions of the
spec (D1, D2, D17). -/
def Obligations.DmaCopiesPage : Prop :=
  ∀ (s : State) (v : Byte), s.mems.Ok → v ≠ 0xFF →
    let t := cycles 39 (memWrite 0xFF46 v s)
    (∀ k, k < 160 → Memory.read .oam t.mems.oam k = busRead s (BitVec.ofNat 16 (v.toNat * 256 + k))) ∧
    t.dma = { active := false, sourcePage := v, index := 160 } ∧ (cycles 38 (memWrite 0xFF46 v s)).dma.active = true ∧
    t.mems.vram = s.mems.vram ∧ t.mems.wram = s.mems.wram ∧ t.mems.hram = s.mems.hram ∧ t.mems.cartRam = s.mems.cartRam

/-! ### The picture -/

/-- The frame (R351, R360, R365, R366): `n` machine cycles move `ppu_clock` by `4n` ticks around the 70224 of a frame, with `LY` always its
scanline, and 17556 machine cycles are one frame. How the events of one tick combine is a decision of the spec (D20). -/
def Obligations.FrameTiming : Prop :=
  ∀ (s : State) (n : Nat), s.ppu.ClockOk → s.ppu.LineOk →
    (cycles n s).ppu.ppuClock = (s.ppu.ppuClock + 4 * n) % 70224 ∧
    (cycles n s).ppu.ly.toNat = (s.ppu.ppuClock + 4 * n) % 70224 / 456 ∧
    (cycles 17556 s).ppu.ppuClock = s.ppu.ppuClock ∧ (cycles 17556 s).ppu.ly = s.ppu.ly

/-- The PPU's requests in one tick and the LCD switched off (R361, R364, R367): request 1 at the start of every line, request 0 at
`ppu_clock = 65664` with `LCDC[7]` set, neither otherwise; with `LCDC[7]` clear the picture and the sprite cache stay.
What runs with the LCD off is a decision of the spec (D19, D20, D38). -/
def Obligations.PictureRequestsAndLcdOff : Prop :=
  ∀ s : State,
    (tick s).irq.getLsbD 1 = (s.irq.getLsbD 1 || decide (s.ppu.ppuClock % 456 = 0)) ∧
    (tick s).irq.getLsbD 0 = (s.irq.getLsbD 0 || (decide (s.ppu.ppuClock = 65664) && s.ppu.lcdc.getLsbD 7)) ∧
    (tick s).irq.getLsbD 3 = s.irq.getLsbD 3 ∧ (tick s).irq.getLsbD 4 = s.irq.getLsbD 4 ∧
    (s.ppu.lcdc.getLsbD 7 = false → (tick s).ppu.fb = s.ppu.fb ∧ (tick s).ppu.sprites = s.ppu.sprites)

/-- A tick draws one pixel in mode 3 with the LCD on, at column `LX` of row `LY`, in one of the four fixed colours, and none otherwise
(R362, R374, R384). The gating and the colour word are decisions of the spec (D21, D30, D38). -/
def Obligations.TickDrawsOnePixel : Prop :=
  ∀ s : State, frameBufferWf s.ppu.fb = true → s.ppu.ClockOk → s.ppu.LineOk → s.ppu.ColumnOk →
    let h := s.ppu.ppuClock % 456
    let draws := s.ppu.ppuClock < 65664 ∧ 80 ≤ h ∧ h < 240 ∧ s.ppu.lcdc.getLsbD 7 = true
    ∀ j, j < 23040 →
      (draws → j = s.ppu.ppuClock / 456 * 160 + (h - 80) →
        pixelAt (tick s).ppu.fb j =
          0xFF000000 ||| ([0xD7E894, 0xAEC440, 0x527F39, 0x204631] : List (BitVec 32)).getD
            (pixelShade (tick s).mems s.ppu (h - 80)).toNat 0) ∧
      (¬draws ∨ j ≠ s.ppu.ppuClock / 456 * 160 + (h - 80) → pixelAt (tick s).ppu.fb j = pixelAt s.ppu.fb j)

/-- The sprite cache (R352, R370, R371, R372): the first ten entries in OAM order that intersect the line, sorted by `x` and then by OAM
index, each with its position and the eight colour indexes of the row shown, flips applied. The tick at the start of a visible
line with `LCDC[7]` set stores that cache, built from the memories of the tick; in every other tick the cache stays as it is
(R361, R367, R373). The entry layout is general knowledge that the spec adds; selection, flips, the unmasked tile, that lines
144 to 153 build no cache, and that `LCDC[1]` plays no part are decisions of the spec (D19, D24, D25, D26, D38, D40, D42). -/
def Obligations.SpriteCacheSelection : Prop :=
  (∀ (m : Mems) (p : Ppu), ∃ order : List Nat, order.Nodup ∧ order.length ≤ 10 ∧
    (∀ i, i ∈ order ↔ i < 40 ∧ spriteIntersects m p i = true ∧
      ((List.range i).filter (spriteIntersects m p)).length < 10) ∧
    order.Pairwise (fun i j => (oamByte m (4 * i + 1)).toNat < (oamByte m (4 * j + 1)).toNat ∨
      (oamByte m (4 * i + 1) = oamByte m (4 * j + 1) ∧ i < j)) ∧
    (buildSpriteCache m p).map (fun sp => (sp.x, sp.y, sp.tile, sp.attr, sp.pix.toList)) = order.map (cachedEntry m p)) ∧
    ∀ s : State, (tick s).ppu.sprites =
      if s.ppu.ppuClock < 65664 ∧ s.ppu.ppuClock % 456 = 0 ∧ s.ppu.lcdc.getLsbD 7 = true then
        buildSpriteCache (tick s).mems s.ppu
      else s.ppu.sprites

/-- What a pixel is composed of. Background and window (R353, R374 to R376): where `LCDC[5]` is set, `LY >= WY` and `LX + 7 >= WX`,
the window shows, at `LX + 7 - WX`, `LY - WY` of the map that `LCDC[6]` selects; elsewhere the background shows if `LCDC[0]` is
set, at `LX + SCX`, `LY + SCY` modulo 256 of the map that `LCDC[3]` selects, and index 0 and shade 0 if not. The map byte selects a
tile, unsigned from offset 0 with `LCDC[4]` set and signed from `0x1000` otherwise; the index takes its low bit from the first
byte of the tile's line and its high bit from the second, leftmost pixel first, and the shade is `BGP`'s entry. Sprites (R380,
R381): the first opaque entry of the cache wins the pixel; it is drawn unless its priority bit is set and the background or
window index is nonzero, in which case that shows, even if a later entry is opaque too; with no opaque entry, or with
`LCDC[1]` clear, it shows as well. The bit planes, the maps and the sense of `LCDC[4]` are general knowledge that the spec adds
(D26, D29); the order of evaluation, the disabled background, the window's coordinates and the single test are decisions of
the spec (D24, D27, D28, D43). -/
def Obligations.SpritePriority : Prop :=
  ∀ (m : Mems) (p : Ppu) (lx : Nat),
    (let inWindow := p.lcdc.getLsbD 5 && decide (p.wy.toNat ≤ p.ly.toNat) && decide (p.wx.toNat ≤ lx + 7)
      let x := if inWindow then lx + 7 - p.wx.toNat else (lx + p.scx.toNat) % 256
      let y := if inWindow then p.ly.toNat - p.wy.toNat else (p.ly.toNat + p.scy.toNat) % 256
      let map := if (if inWindow then p.lcdc.getLsbD 6 else p.lcdc.getLsbD 3) then 0x1C00 else 0x1800
      let tile := (vramByte m (map + 32 * (y / 8) + x / 8)).toNat
      let first := if p.lcdc.getLsbD 4 = false ∧ tile < 128 then 0x1000 + 16 * tile else 16 * tile
      let line := first + 2 * (y % 8)
      let index := 2 * ((vramByte m (line + 1)).toNat / 2 ^ (7 - x % 8) % 2) + (vramByte m line).toNat / 2 ^ (7 - x % 8) % 2
      let shown := backgroundPixel m p lx
      if inWindow = true ∨ p.lcdc.getLsbD 0 = true then
        shown.1.toNat = index ∧ shown.2.toNat = p.bgp.toNat / 4 ^ index % 4
      else shown = (0, 0)) ∧
    (∀ before sp after, p.lcdc.getLsbD 1 = true → p.sprites = before ++ sp :: after →
      (∀ q ∈ before, opaqueAt lx q = false) → opaqueAt lx sp = true →
      pixelShade m p lx =
        if sp.attr.getLsbD 7 = true ∧ (backgroundPixel m p lx).1 ≠ 0 then (backgroundPixel m p lx).2
        else
          BitVec.ofNat 2
            ((if sp.attr.getLsbD 4 then p.obp1 else p.obp0).toNat / 4 ^ (spritePixel lx sp).toNat)) ∧
    (p.lcdc.getLsbD 1 = false ∨ (∀ q ∈ p.sprites, opaqueAt lx q = false) → pixelShade m p lx = (backgroundPixel m p lx).2)

/-! ### The host and reset -/

/-- `StepFrame` (R411): from a running machine that meets the invariants it runs whole steps, at least one, and gives back the state
after the last and the ticks elapsed; `ppu_clock` has moved by as many. It ends after the first step that has run the tick of
`ppu_clock = 65664`: before every step of the call that tick has not been run, and after the last it has, unless the machine is
then in a terminal status. So it ends within one frame and one step. In a terminal status it returns at once. Where the call
ends, and that a terminal state ends it, are decisions of the spec (D31). -/
def Obligations.StepFrameReachesVBlank : Prop :=
  (∀ s : State, s.Inv → s.ctl.status = .running →
    let toBoundary := (135888 - s.ppu.ppuClock) % 70224
    ∃ (n : Nat) (run : Nat → State), 0 < n ∧ run 0 = s ∧ run n = (stepFrame s).2 ∧
      (∀ k, k < n → step (run k) = .next (run (k + 1)) ∧ (run k).clock ≤ s.clock + toBoundary) ∧
      (run n).clock = s.clock + (stepFrame s).1 ∧
      (run n).ppu.ppuClock = (s.ppu.ppuClock + (stepFrame s).1) % 70224 ∧
      ((run n).ctl.status ≠ .running ∨ toBoundary < (stepFrame s).1) ∧
      (stepFrame s).1 ≤ 70223 + 4 * max 6 (s.params.intEntryInternalMc + 2)) ∧
  ∀ s : State, s.ctl.status ≠ .running → stepFrame s = (0, s)

/-- Reset (R51, R52, R400, R401): the CPU registers of both variants, the boot mapping, `mbc.bank = 1`, and every other register,
latch, counter and memory zero, released or empty. The registers of the boot variant and all of R52 but the bank register are
decisions of the spec (D10, D11). Construction with the boot ROM and no image is refused: that is the model's inference (log
entry 11) from the spec's treatment U5, where R401 itself asks for the boot path to be disabled. -/
def Obligations.ConstructionGivesResetState : Prop :=
  ∀ p : Params,
    (p.useBootRom = true → p.bootRom = none → State.construct p = .refused .bootRomAbsent) ∧
    (p.useBootRom = false ∨ p.bootRom ≠ none → ∃ s, State.construct p = .next s ∧ s.params = p ∧
      s.bootMapped = p.useBootRom ∧ s.mbc = { bank := 1, ramEnable := false } ∧ s.ie = 0 ∧ s.irq = 0 ∧ s.clock = 0 ∧
      s.ctl = { ime := false, halt := false, stop := false, status := .running } ∧
      (p.useBootRom = false →
        getStackPair .af s = 0x01B0 ∧ getPair .bc s = 0x0013 ∧ getPair .de s = 0x00D8 ∧ getPair .hl s = 0x014D ∧
        s.regs.sp = 0xFFFE ∧ s.regs.pc = 0x0100 ∧ s.flags = { z := true, n := false, h := true, c := true }) ∧
      (p.useBootRom = true → s.regs.sp = 0 ∧ s.regs.pc = 0 ∧ getStackPair .af s = 0 ∧ getPair .bc s = 0 ∧
        getPair .de s = 0 ∧ getPair .hl s = 0) ∧
      (∀ a : Word, plainRam a = true ∨ (0xFE00 ≤ a.toNat ∧ a.toNat < 0xFEA0) → busRead s a = 0) ∧
      (∀ k, Memory.read .cartRam s.mems.cartRam k = 0) ∧
      s.joypad.button = false ∧ s.joypad.dpad = false ∧ s.joypad.pad = Pad.released ∧ busRead s 0xFF00 = 0x3F ∧
      s.dma = { active := false, sourcePage := 0, index := 0 } ∧ s.timer.tac = 0 ∧ s.ppu.statEnables = 0 ∧
      s.ppu.mode = .hblank ∧ busRead s 0xFF41 = 0 ∧
      (∀ v ∈ [s.timer.div, s.timer.tima, s.timer.tma, s.ppu.lcdc, s.ppu.scy, s.ppu.scx, s.ppu.ly, s.ppu.lyc, s.ppu.wy,
        s.ppu.wx, s.ppu.bgp, s.ppu.obp0, s.ppu.obp1], v = 0) ∧
      s.ppu.ppuClock = 0 ∧ s.ppu.lx = 0 ∧ s.ppu.sprites = [] ∧ ∀ j, pixelAt s.ppu.fb j = 0)
end

