-- ==== Sys2Proof/Laws/Memory.lean ====
section
/-! SUPPORT. Sys2Proof/Laws/Memory.lean: reading after writing, and that a write keeps the canonical form. -/

namespace Sys2Proof.Machine

variable {α : Type}

/-- Below every listed index a list in rising form reads as `d`. -/
theorem readAt_of_risesAbove [DecidableEq α] {d : α} {n : Nat} {m : List (Nat × α)} (h : risesAbove d n m = true) {k : Nat}
    (hk : k ≤ n) : readAt d m k = d := by
  cases m with
  | nil => rfl
  | cons c rest =>
    obtain ⟨a, v⟩ := c
    simp only [risesAbove, Bool.and_eq_true, decide_eq_true_eq] at h
    simp only [readAt]
    rw [if_neg (by omega), if_pos (by omega)]

theorem risesAbove_mono [DecidableEq α] {d : α} {n k : Nat} {m : List (Nat × α)} (h : risesAbove d n m = true) (hk : k ≤ n) :
    risesAbove d k m = true := by
  cases m with
  | nil => rfl
  | cons c rest =>
    obtain ⟨a, v⟩ := c
    simp only [risesAbove, Bool.and_eq_true, decide_eq_true_eq] at h ⊢
    exact ⟨⟨by omega, h.1.2⟩, h.2⟩

theorem risesAbove_writeAt [DecidableEq α] {d : α} {n k : Nat} {v : α} {m : List (Nat × α)} (h : risesAbove d n m = true)
    (hk : n < k) : risesAbove d n (writeAt d m k v) = true := by
  induction m generalizing n with
  | nil => by_cases hv : v = d <;> simp [writeAt, risesAbove, hv, hk]
  | cons c rest ih =>
    obtain ⟨a, w⟩ := c
    simp only [risesAbove, Bool.and_eq_true, decide_eq_true_eq] at h
    simp only [writeAt]
    split
    · split
      · simp [risesAbove, h]
      · simp_all [risesAbove]
    · split
      · split
        · exact risesAbove_mono h.2 (by omega)
        · simp_all [risesAbove]
      · simp only [risesAbove, Bool.and_eq_true, decide_eq_true_eq]
        exact ⟨h.1, ih h.2 (by omega)⟩

/-- A write keeps the canonical form. -/
theorem canonical_writeAt [DecidableEq α] {d : α} {k : Nat} {v : α} {m : List (Nat × α)} (h : canonical d m = true) :
    canonical d (writeAt d m k v) = true := by
  cases m with
  | nil => by_cases hv : v = d <;> simp [writeAt, canonical, risesAbove, hv]
  | cons c rest =>
    obtain ⟨a, w⟩ := c
    simp only [canonical, Bool.and_eq_true, decide_eq_true_eq] at h
    simp only [writeAt]
    split
    · split
      · simp [canonical, h]
      · simp_all [canonical, risesAbove]
    · split
      · split
        · cases rest with
          | nil => rfl
          | cons c' rest' =>
            obtain ⟨a', w'⟩ := c'
            simp only [risesAbove, Bool.and_eq_true, decide_eq_true_eq] at h
            simp only [canonical, Bool.and_eq_true, decide_eq_true_eq]
            exact ⟨h.2.1.2, h.2.2⟩
        · simp_all [canonical]
      · simp only [canonical, Bool.and_eq_true, decide_eq_true_eq]
        exact ⟨h.1, risesAbove_writeAt h.2 (by omega)⟩

/-- A write inside the bound keeps every index below it. -/
theorem allBelow_writeAt [DecidableEq α] {d : α} {n k : Nat} {v : α} {m : List (Nat × α)} (h : allBelow n m = true)
    (hk : k < n) : allBelow n (writeAt d m k v) = true := by
  induction m with
  | nil => by_cases hv : v = d <;> simp [writeAt, allBelow, hv, hk]
  | cons c rest ih =>
    obtain ⟨a, w⟩ := c
    have hc : a < n ∧ allBelow n rest = true := by
      simpa [allBelow, List.all_cons, -List.all_eq_true] using h
    have cons : ∀ (e : Nat × α) (l : List (Nat × α)), e.1 < n → allBelow n l = true → allBelow n (e :: l) = true := by
      intro e l he hl
      simp only [allBelow, List.all_cons, Bool.and_eq_true, decide_eq_true_eq]
      exact ⟨he, hl⟩
    simp only [writeAt]
    split
    · split
      · exact h
      · exact cons _ _ hk h
    · split
      · split
        · exact hc.2
        · exact cons _ _ hk hc.2
      · exact cons _ _ hc.1 (ih hc.2)

/-- The rest of a list in canonical form is in canonical form. -/
theorem canonical_of_risesAbove [DecidableEq α] {d : α} {n : Nat} {m : List (Nat × α)} (h : risesAbove d n m = true) :
    canonical d m = true := by
  cases m with
  | nil => rfl
  | cons c rest =>
    obtain ⟨a, v⟩ := c
    simp only [risesAbove, Bool.and_eq_true, decide_eq_true_eq] at h
    simp only [canonical, Bool.and_eq_true, decide_eq_true_eq]
    exact ⟨h.1.2, h.2⟩

/-- Reading after a write. -/
theorem readAt_writeAt [DecidableEq α] {d : α} {m : List (Nat × α)} (h : canonical d m = true) (k j : Nat) (v : α) :
    readAt d (writeAt d m k v) j = if j = k then v else readAt d m j := by
  induction m with
  | nil =>
    by_cases hv : v = d <;> by_cases hj : j = k <;> simp [writeAt, readAt, hv, hj]
  | cons c rest ih =>
    obtain ⟨a, w⟩ := c
    simp only [canonical, Bool.and_eq_true, decide_eq_true_eq] at h
    have hlow : ∀ i, i ≤ a → readAt d rest i = d := fun i hi => readAt_of_risesAbove h.2 hi
    have ih := ih (canonical_of_risesAbove h.2)
    simp only [writeAt]
    by_cases h1 : k < a
    · rw [if_pos h1]
      by_cases hj : j = k
      · subst hj
        by_cases hv : v = d
        · simp [readAt, hv, h1]; omega
        · simp [readAt, hv]
      · by_cases hv : v = d
        · simp [hv, hj]
        · by_cases hlt : j < k
          · have : j ≠ a ∧ j < a := by omega
            simp [readAt, hv, hj, hlt, this]
          · simp [readAt, hv, hj, hlt]
    · rw [if_neg h1]
      by_cases h2 : k = a
      · subst h2
        rw [if_pos rfl]
        by_cases hv : v = d <;> by_cases hj : j = k <;> simp [readAt, hv, hj]
        · exact hlow k (Nat.le_refl k)
        · intro h3
          exact hlow j (by omega)
      · rw [if_neg h2]
        simp only [readAt, ih]
        by_cases hj : j = k
        · subst hj; simp [h1, h2]
        · simp [hj]

/-- Lists in canonical form that read alike are equal: equal memories are equal data. -/
theorem canonical_ext [DecidableEq α] {d : α} {m m' : List (Nat × α)} (h : canonical d m = true)
    (h' : canonical d m' = true) (he : ∀ k, readAt d m k = readAt d m' k) : m = m' := by
  induction m generalizing m' with
  | nil =>
    cases m' with
    | nil => rfl
    | cons c rest =>
      obtain ⟨a, v⟩ := c
      simp only [canonical, Bool.and_eq_true, decide_eq_true_eq] at h'
      have := he a
      simp only [readAt, if_true] at this
      exact absurd this.symm h'.1
  | cons c rest ih =>
    obtain ⟨a, v⟩ := c
    simp only [canonical, Bool.and_eq_true, decide_eq_true_eq] at h
    cases m' with
    | nil =>
      have := he a
      simp only [readAt, if_true] at this
      exact absurd this h.1
    | cons c' rest' =>
      obtain ⟨a', v'⟩ := c'
      simp only [canonical, Bool.and_eq_true, decide_eq_true_eq] at h'
      have ha : a = a' := by
        have e1 := he a
        have e2 := he a'
        simp only [readAt, if_true] at e1 e2
        by_cases hlt : a < a'
        · rw [if_neg (by omega), if_pos hlt] at e1
          exact absurd e1 h.1
        · by_cases heq : a = a'
          · exact heq
          · rw [if_neg (by omega), if_pos (by omega)] at e2
            exact absurd e2.symm h'.1
      subst ha
      have hv : v = v' := by
        have e := he a
        simpa only [readAt, if_true] using e
      subst hv
      congr 1
      refine ih (canonical_of_risesAbove h.2) (canonical_of_risesAbove h'.2) fun k => ?_
      by_cases hk : k ≤ a
      · rw [readAt_of_risesAbove h.2 hk, readAt_of_risesAbove h'.2 hk]
      · have e := he k
        simp only [readAt] at e
        rwa [if_neg (by omega), if_neg (by omega), if_neg (by omega), if_neg (by omega)] at e

/-- The empty memory is in canonical form. -/
@[simp] theorem Memory.wf_nil (r : Region) : Memory.wf r [] = true := rfl

/-- A write inside a region keeps its memory well formed. -/
theorem Memory.wf_write {r : Region} {m : Memory} {k : Nat} {v : Byte} (h : Memory.wf r m = true) (hk : k < r.size) :
    Memory.wf r (Memory.write r m k v) = true := by
  simp only [Memory.wf, Memory.write, Bool.and_eq_true] at h ⊢
  exact ⟨canonical_writeAt h.1, allBelow_writeAt h.2 hk⟩

/-- Reading a region's memory after a write. -/
theorem Memory.read_write {r : Region} {m : Memory} (h : Memory.wf r m = true) (k j : Nat) (v : Byte) :
    Memory.read r (Memory.write r m k v) j = if j = k then v else Memory.read r m j := by
  simp only [Memory.wf, Bool.and_eq_true] at h
  exact readAt_writeAt h.1 k j v

@[simp] theorem Memory.read_nil (r : Region) (k : Nat) : Memory.read r [] k = r.unlisted := rfl

/-- The empty frame buffer is in canonical form. -/
@[simp] theorem frameBufferWf_nil : frameBufferWf [] = true := rfl

/-- Storing a pixel keeps the frame buffer well formed. -/
theorem frameBufferWf_putPixel {fb : List (Nat × BitVec 32)} {k : Nat} {v : BitVec 32} (h : frameBufferWf fb = true) :
    frameBufferWf (putPixel fb k v) = true := by
  simp only [frameBufferWf, Bool.and_eq_true] at h
  simp only [putPixel]
  split
  · next hk => simp only [frameBufferWf, Bool.and_eq_true]; exact ⟨canonical_writeAt h.1, allBelow_writeAt h.2 hk⟩
  · simp only [frameBufferWf, Bool.and_eq_true]; exact h

/-- Reading the frame buffer after storing a pixel. -/
theorem pixelAt_putPixel {fb : List (Nat × BitVec 32)} (h : frameBufferWf fb = true) (k j : Nat) (v : BitVec 32) :
    pixelAt (putPixel fb k v) j = if j = k ∧ k < screenPixels then v else pixelAt fb j := by
  simp only [frameBufferWf, Bool.and_eq_true] at h
  simp only [putPixel, pixelAt]
  split
  · next hk => rw [readAt_writeAt h.1]; simp [hk]
  · next hk => simp [hk]

/-! ### Loading an image -/

theorem readAt_entriesFrom_below (r : Region) (bytes : List Byte) (k j : Nat) (h : j < k) :
    readAt r.unlisted (Memory.entriesFrom r k bytes) j = r.unlisted := by
  induction bytes generalizing k with
  | nil => rfl
  | cons v rest ih =>
    unfold Memory.entriesFrom
    split
    · exact ih (k + 1) (by omega)
    · simp only [readAt]
      rw [if_neg (by omega), if_pos h]

theorem readAt_entriesFrom (r : Region) (bytes : List Byte) (k j : Nat) :
    readAt r.unlisted (Memory.entriesFrom r k bytes) (k + j) = bytes.getD j r.unlisted := by
  induction bytes generalizing k j with
  | nil => rfl
  | cons v rest ih =>
    unfold Memory.entriesFrom
    cases j with
    | zero =>
      split
      · next h => rw [readAt_entriesFrom_below r rest (k + 1) (k + 0) (by omega), h]; rfl
      · simp [readAt]
    | succ j =>
      have e : k + (j + 1) = k + 1 + j := by omega
      split
      · rw [e, ih]; rfl
      · simp only [readAt]
        rw [if_neg (by omega), if_neg (by omega), e, ih]; rfl

/-- A loaded image reads as its bytes, and as unlisted beyond them. -/
theorem Memory.read_ofBytes (r : Region) (bytes : List Byte) (k : Nat) :
    Memory.read r (Memory.ofBytes r bytes) k = bytes.getD k r.unlisted := by
  have h := readAt_entriesFrom r bytes 0 k
  rwa [Nat.zero_add] at h

end Sys2Proof.Machine
end

