-- ==== Sys2Proof/Laws/State.lean ====
section
/-! SUPPORT. Sys2Proof/Laws/State.lean: for each update of the state, what every field holds after it. -/

namespace Sys2Proof.Machine

/-! ### `setPc` -/

@[simp] theorem setPc_ctl (v : Word) (s : State) : (setPc v s).ctl = s.ctl := rfl
@[simp] theorem setPc_ie (v : Word) (s : State) : (setPc v s).ie = s.ie := rfl
@[simp] theorem setPc_irq (v : Word) (s : State) : (setPc v s).irq = s.irq := rfl
@[simp] theorem setPc_clock (v : Word) (s : State) : (setPc v s).clock = s.clock := rfl
@[simp] theorem setPc_joypad (v : Word) (s : State) : (setPc v s).joypad = s.joypad := rfl
@[simp] theorem setPc_dma (v : Word) (s : State) : (setPc v s).dma = s.dma := rfl
@[simp] theorem setPc_timer (v : Word) (s : State) : (setPc v s).timer = s.timer := rfl
@[simp] theorem setPc_bootMapped (v : Word) (s : State) : (setPc v s).bootMapped = s.bootMapped := rfl
@[simp] theorem setPc_mbc (v : Word) (s : State) : (setPc v s).mbc = s.mbc := rfl
@[simp] theorem setPc_mems (v : Word) (s : State) : (setPc v s).mems = s.mems := rfl
@[simp] theorem setPc_ppu (v : Word) (s : State) : (setPc v s).ppu = s.ppu := rfl
@[simp] theorem setPc_params (v : Word) (s : State) : (setPc v s).params = s.params := rfl
@[simp] theorem setPc_regs_a (v : Word) (s : State) : (setPc v s).regs.a = s.regs.a := rfl
@[simp] theorem setPc_regs_f (v : Word) (s : State) : (setPc v s).regs.f = s.regs.f := rfl
@[simp] theorem setPc_regs_b (v : Word) (s : State) : (setPc v s).regs.b = s.regs.b := rfl
@[simp] theorem setPc_regs_c (v : Word) (s : State) : (setPc v s).regs.c = s.regs.c := rfl
@[simp] theorem setPc_regs_d (v : Word) (s : State) : (setPc v s).regs.d = s.regs.d := rfl
@[simp] theorem setPc_regs_e (v : Word) (s : State) : (setPc v s).regs.e = s.regs.e := rfl
@[simp] theorem setPc_regs_h (v : Word) (s : State) : (setPc v s).regs.h = s.regs.h := rfl
@[simp] theorem setPc_regs_l (v : Word) (s : State) : (setPc v s).regs.l = s.regs.l := rfl
@[simp] theorem setPc_regs_sp (v : Word) (s : State) : (setPc v s).regs.sp = s.regs.sp := rfl
@[simp] theorem setPc_regs_pc (v : Word) (s : State) : (setPc v s).regs.pc = v := rfl

/-! ### `setSp` -/

@[simp] theorem setSp_ctl (v : Word) (s : State) : (setSp v s).ctl = s.ctl := rfl
@[simp] theorem setSp_ie (v : Word) (s : State) : (setSp v s).ie = s.ie := rfl
@[simp] theorem setSp_irq (v : Word) (s : State) : (setSp v s).irq = s.irq := rfl
@[simp] theorem setSp_clock (v : Word) (s : State) : (setSp v s).clock = s.clock := rfl
@[simp] theorem setSp_joypad (v : Word) (s : State) : (setSp v s).joypad = s.joypad := rfl
@[simp] theorem setSp_dma (v : Word) (s : State) : (setSp v s).dma = s.dma := rfl
@[simp] theorem setSp_timer (v : Word) (s : State) : (setSp v s).timer = s.timer := rfl
@[simp] theorem setSp_bootMapped (v : Word) (s : State) : (setSp v s).bootMapped = s.bootMapped := rfl
@[simp] theorem setSp_mbc (v : Word) (s : State) : (setSp v s).mbc = s.mbc := rfl
@[simp] theorem setSp_mems (v : Word) (s : State) : (setSp v s).mems = s.mems := rfl
@[simp] theorem setSp_ppu (v : Word) (s : State) : (setSp v s).ppu = s.ppu := rfl
@[simp] theorem setSp_params (v : Word) (s : State) : (setSp v s).params = s.params := rfl
@[simp] theorem setSp_regs_a (v : Word) (s : State) : (setSp v s).regs.a = s.regs.a := rfl
@[simp] theorem setSp_regs_f (v : Word) (s : State) : (setSp v s).regs.f = s.regs.f := rfl
@[simp] theorem setSp_regs_b (v : Word) (s : State) : (setSp v s).regs.b = s.regs.b := rfl
@[simp] theorem setSp_regs_c (v : Word) (s : State) : (setSp v s).regs.c = s.regs.c := rfl
@[simp] theorem setSp_regs_d (v : Word) (s : State) : (setSp v s).regs.d = s.regs.d := rfl
@[simp] theorem setSp_regs_e (v : Word) (s : State) : (setSp v s).regs.e = s.regs.e := rfl
@[simp] theorem setSp_regs_h (v : Word) (s : State) : (setSp v s).regs.h = s.regs.h := rfl
@[simp] theorem setSp_regs_l (v : Word) (s : State) : (setSp v s).regs.l = s.regs.l := rfl
@[simp] theorem setSp_regs_sp (v : Word) (s : State) : (setSp v s).regs.sp = v := rfl
@[simp] theorem setSp_regs_pc (v : Word) (s : State) : (setSp v s).regs.pc = s.regs.pc := rfl

/-! ### `setFlags` -/

@[simp] theorem setFlags_ctl (fl : Flags) (s : State) : (setFlags fl s).ctl = s.ctl := rfl
@[simp] theorem setFlags_ie (fl : Flags) (s : State) : (setFlags fl s).ie = s.ie := rfl
@[simp] theorem setFlags_irq (fl : Flags) (s : State) : (setFlags fl s).irq = s.irq := rfl
@[simp] theorem setFlags_clock (fl : Flags) (s : State) : (setFlags fl s).clock = s.clock := rfl
@[simp] theorem setFlags_joypad (fl : Flags) (s : State) : (setFlags fl s).joypad = s.joypad := rfl
@[simp] theorem setFlags_dma (fl : Flags) (s : State) : (setFlags fl s).dma = s.dma := rfl
@[simp] theorem setFlags_timer (fl : Flags) (s : State) : (setFlags fl s).timer = s.timer := rfl
@[simp] theorem setFlags_bootMapped (fl : Flags) (s : State) : (setFlags fl s).bootMapped = s.bootMapped := rfl
@[simp] theorem setFlags_mbc (fl : Flags) (s : State) : (setFlags fl s).mbc = s.mbc := rfl
@[simp] theorem setFlags_mems (fl : Flags) (s : State) : (setFlags fl s).mems = s.mems := rfl
@[simp] theorem setFlags_ppu (fl : Flags) (s : State) : (setFlags fl s).ppu = s.ppu := rfl
@[simp] theorem setFlags_params (fl : Flags) (s : State) : (setFlags fl s).params = s.params := rfl
@[simp] theorem setFlags_regs_a (fl : Flags) (s : State) : (setFlags fl s).regs.a = s.regs.a := rfl
@[simp] theorem setFlags_regs_f (fl : Flags) (s : State) : (setFlags fl s).regs.f = putFlags fl s.regs.f := rfl
@[simp] theorem setFlags_regs_b (fl : Flags) (s : State) : (setFlags fl s).regs.b = s.regs.b := rfl
@[simp] theorem setFlags_regs_c (fl : Flags) (s : State) : (setFlags fl s).regs.c = s.regs.c := rfl
@[simp] theorem setFlags_regs_d (fl : Flags) (s : State) : (setFlags fl s).regs.d = s.regs.d := rfl
@[simp] theorem setFlags_regs_e (fl : Flags) (s : State) : (setFlags fl s).regs.e = s.regs.e := rfl
@[simp] theorem setFlags_regs_h (fl : Flags) (s : State) : (setFlags fl s).regs.h = s.regs.h := rfl
@[simp] theorem setFlags_regs_l (fl : Flags) (s : State) : (setFlags fl s).regs.l = s.regs.l := rfl
@[simp] theorem setFlags_regs_sp (fl : Flags) (s : State) : (setFlags fl s).regs.sp = s.regs.sp := rfl
@[simp] theorem setFlags_regs_pc (fl : Flags) (s : State) : (setFlags fl s).regs.pc = s.regs.pc := rfl

/-! ### `setIme` -/

@[simp] theorem setIme_regs (v : Bool) (s : State) : (setIme v s).regs = s.regs := rfl
@[simp] theorem setIme_ie (v : Bool) (s : State) : (setIme v s).ie = s.ie := rfl
@[simp] theorem setIme_irq (v : Bool) (s : State) : (setIme v s).irq = s.irq := rfl
@[simp] theorem setIme_clock (v : Bool) (s : State) : (setIme v s).clock = s.clock := rfl
@[simp] theorem setIme_joypad (v : Bool) (s : State) : (setIme v s).joypad = s.joypad := rfl
@[simp] theorem setIme_dma (v : Bool) (s : State) : (setIme v s).dma = s.dma := rfl
@[simp] theorem setIme_timer (v : Bool) (s : State) : (setIme v s).timer = s.timer := rfl
@[simp] theorem setIme_bootMapped (v : Bool) (s : State) : (setIme v s).bootMapped = s.bootMapped := rfl
@[simp] theorem setIme_mbc (v : Bool) (s : State) : (setIme v s).mbc = s.mbc := rfl
@[simp] theorem setIme_mems (v : Bool) (s : State) : (setIme v s).mems = s.mems := rfl
@[simp] theorem setIme_ppu (v : Bool) (s : State) : (setIme v s).ppu = s.ppu := rfl
@[simp] theorem setIme_params (v : Bool) (s : State) : (setIme v s).params = s.params := rfl
@[simp] theorem setIme_ctl_ime (v : Bool) (s : State) : (setIme v s).ctl.ime = v := rfl
@[simp] theorem setIme_ctl_halt (v : Bool) (s : State) : (setIme v s).ctl.halt = s.ctl.halt := rfl
@[simp] theorem setIme_ctl_stop (v : Bool) (s : State) : (setIme v s).ctl.stop = s.ctl.stop := rfl
@[simp] theorem setIme_ctl_status (v : Bool) (s : State) : (setIme v s).ctl.status = s.ctl.status := rfl

/-! ### `setHalt` -/

@[simp] theorem setHalt_regs (v : Bool) (s : State) : (setHalt v s).regs = s.regs := rfl
@[simp] theorem setHalt_ie (v : Bool) (s : State) : (setHalt v s).ie = s.ie := rfl
@[simp] theorem setHalt_irq (v : Bool) (s : State) : (setHalt v s).irq = s.irq := rfl
@[simp] theorem setHalt_clock (v : Bool) (s : State) : (setHalt v s).clock = s.clock := rfl
@[simp] theorem setHalt_joypad (v : Bool) (s : State) : (setHalt v s).joypad = s.joypad := rfl
@[simp] theorem setHalt_dma (v : Bool) (s : State) : (setHalt v s).dma = s.dma := rfl
@[simp] theorem setHalt_timer (v : Bool) (s : State) : (setHalt v s).timer = s.timer := rfl
@[simp] theorem setHalt_bootMapped (v : Bool) (s : State) : (setHalt v s).bootMapped = s.bootMapped := rfl
@[simp] theorem setHalt_mbc (v : Bool) (s : State) : (setHalt v s).mbc = s.mbc := rfl
@[simp] theorem setHalt_mems (v : Bool) (s : State) : (setHalt v s).mems = s.mems := rfl
@[simp] theorem setHalt_ppu (v : Bool) (s : State) : (setHalt v s).ppu = s.ppu := rfl
@[simp] theorem setHalt_params (v : Bool) (s : State) : (setHalt v s).params = s.params := rfl
@[simp] theorem setHalt_ctl_ime (v : Bool) (s : State) : (setHalt v s).ctl.ime = s.ctl.ime := rfl
@[simp] theorem setHalt_ctl_halt (v : Bool) (s : State) : (setHalt v s).ctl.halt = v := rfl
@[simp] theorem setHalt_ctl_stop (v : Bool) (s : State) : (setHalt v s).ctl.stop = s.ctl.stop := rfl
@[simp] theorem setHalt_ctl_status (v : Bool) (s : State) : (setHalt v s).ctl.status = s.ctl.status := rfl

/-! ### `raiseStopExecuted` -/

@[simp] theorem raiseStopExecuted_regs (s : State) : (raiseStopExecuted s).regs = s.regs := rfl
@[simp] theorem raiseStopExecuted_ie (s : State) : (raiseStopExecuted s).ie = s.ie := rfl
@[simp] theorem raiseStopExecuted_irq (s : State) : (raiseStopExecuted s).irq = s.irq := rfl
@[simp] theorem raiseStopExecuted_clock (s : State) : (raiseStopExecuted s).clock = s.clock := rfl
@[simp] theorem raiseStopExecuted_joypad (s : State) : (raiseStopExecuted s).joypad = s.joypad := rfl
@[simp] theorem raiseStopExecuted_dma (s : State) : (raiseStopExecuted s).dma = s.dma := rfl
@[simp] theorem raiseStopExecuted_timer (s : State) : (raiseStopExecuted s).timer = s.timer := rfl
@[simp] theorem raiseStopExecuted_bootMapped (s : State) : (raiseStopExecuted s).bootMapped = s.bootMapped := rfl
@[simp] theorem raiseStopExecuted_mbc (s : State) : (raiseStopExecuted s).mbc = s.mbc := rfl
@[simp] theorem raiseStopExecuted_mems (s : State) : (raiseStopExecuted s).mems = s.mems := rfl
@[simp] theorem raiseStopExecuted_ppu (s : State) : (raiseStopExecuted s).ppu = s.ppu := rfl
@[simp] theorem raiseStopExecuted_params (s : State) : (raiseStopExecuted s).params = s.params := rfl
@[simp] theorem raiseStopExecuted_ctl_ime (s : State) : (raiseStopExecuted s).ctl.ime = s.ctl.ime := rfl
@[simp] theorem raiseStopExecuted_ctl_halt (s : State) : (raiseStopExecuted s).ctl.halt = s.ctl.halt := rfl
@[simp] theorem raiseStopExecuted_ctl_stop (s : State) : (raiseStopExecuted s).ctl.stop = true := rfl
@[simp] theorem raiseStopExecuted_ctl_status (s : State) : (raiseStopExecuted s).ctl.status = .stopExecuted := rfl

/-! ### `raiseUndefinedOpcode` -/

@[simp] theorem raiseUndefinedOpcode_regs (op : Byte) (s : State) : (raiseUndefinedOpcode op s).regs = s.regs := rfl
@[simp] theorem raiseUndefinedOpcode_ie (op : Byte) (s : State) : (raiseUndefinedOpcode op s).ie = s.ie := rfl
@[simp] theorem raiseUndefinedOpcode_irq (op : Byte) (s : State) : (raiseUndefinedOpcode op s).irq = s.irq := rfl
@[simp] theorem raiseUndefinedOpcode_clock (op : Byte) (s : State) : (raiseUndefinedOpcode op s).clock = s.clock := rfl
@[simp] theorem raiseUndefinedOpcode_joypad (op : Byte) (s : State) : (raiseUndefinedOpcode op s).joypad = s.joypad := rfl
@[simp] theorem raiseUndefinedOpcode_dma (op : Byte) (s : State) : (raiseUndefinedOpcode op s).dma = s.dma := rfl
@[simp] theorem raiseUndefinedOpcode_timer (op : Byte) (s : State) : (raiseUndefinedOpcode op s).timer = s.timer := rfl
@[simp] theorem raiseUndefinedOpcode_bootMapped (op : Byte) (s : State) : (raiseUndefinedOpcode op s).bootMapped = s.bootMapped := rfl
@[simp] theorem raiseUndefinedOpcode_mbc (op : Byte) (s : State) : (raiseUndefinedOpcode op s).mbc = s.mbc := rfl
@[simp] theorem raiseUndefinedOpcode_mems (op : Byte) (s : State) : (raiseUndefinedOpcode op s).mems = s.mems := rfl
@[simp] theorem raiseUndefinedOpcode_ppu (op : Byte) (s : State) : (raiseUndefinedOpcode op s).ppu = s.ppu := rfl
@[simp] theorem raiseUndefinedOpcode_params (op : Byte) (s : State) : (raiseUndefinedOpcode op s).params = s.params := rfl
@[simp] theorem raiseUndefinedOpcode_ctl_ime (op : Byte) (s : State) : (raiseUndefinedOpcode op s).ctl.ime = s.ctl.ime := rfl
@[simp] theorem raiseUndefinedOpcode_ctl_halt (op : Byte) (s : State) : (raiseUndefinedOpcode op s).ctl.halt = s.ctl.halt := rfl
@[simp] theorem raiseUndefinedOpcode_ctl_stop (op : Byte) (s : State) : (raiseUndefinedOpcode op s).ctl.stop = s.ctl.stop := rfl
@[simp] theorem raiseUndefinedOpcode_ctl_status (op : Byte) (s : State) : (raiseUndefinedOpcode op s).ctl.status = .undefinedOpcode op (s.regs.pc - 1) := rfl

/-! ### `acknowledge` -/

@[simp] theorem acknowledge_regs (n : Nat) (s : State) : (acknowledge n s).regs = s.regs := rfl
@[simp] theorem acknowledge_ctl (n : Nat) (s : State) : (acknowledge n s).ctl = s.ctl := rfl
@[simp] theorem acknowledge_ie (n : Nat) (s : State) : (acknowledge n s).ie = s.ie := rfl
@[simp] theorem acknowledge_irq (n : Nat) (s : State) : (acknowledge n s).irq = s.irq &&& ~~~((1 : BitVec 5) <<< n) := rfl
@[simp] theorem acknowledge_clock (n : Nat) (s : State) : (acknowledge n s).clock = s.clock := rfl
@[simp] theorem acknowledge_joypad (n : Nat) (s : State) : (acknowledge n s).joypad = s.joypad := rfl
@[simp] theorem acknowledge_dma (n : Nat) (s : State) : (acknowledge n s).dma = s.dma := rfl
@[simp] theorem acknowledge_timer (n : Nat) (s : State) : (acknowledge n s).timer = s.timer := rfl
@[simp] theorem acknowledge_bootMapped (n : Nat) (s : State) : (acknowledge n s).bootMapped = s.bootMapped := rfl
@[simp] theorem acknowledge_mbc (n : Nat) (s : State) : (acknowledge n s).mbc = s.mbc := rfl
@[simp] theorem acknowledge_mems (n : Nat) (s : State) : (acknowledge n s).mems = s.mems := rfl
@[simp] theorem acknowledge_ppu (n : Nat) (s : State) : (acknowledge n s).ppu = s.ppu := rfl
@[simp] theorem acknowledge_params (n : Nat) (s : State) : (acknowledge n s).params = s.params := rfl

/-! ### `clockStep` -/

@[simp] theorem clockStep_regs (s : State) : (clockStep s).regs = s.regs := rfl
@[simp] theorem clockStep_ctl (s : State) : (clockStep s).ctl = s.ctl := rfl
@[simp] theorem clockStep_ie (s : State) : (clockStep s).ie = s.ie := rfl
@[simp] theorem clockStep_irq (s : State) : (clockStep s).irq = s.irq := rfl
@[simp] theorem clockStep_clock (s : State) : (clockStep s).clock = s.clock + 1 := rfl
@[simp] theorem clockStep_joypad (s : State) : (clockStep s).joypad = s.joypad := rfl
@[simp] theorem clockStep_dma (s : State) : (clockStep s).dma = s.dma := rfl
@[simp] theorem clockStep_timer (s : State) : (clockStep s).timer = s.timer := rfl
@[simp] theorem clockStep_bootMapped (s : State) : (clockStep s).bootMapped = s.bootMapped := rfl
@[simp] theorem clockStep_mbc (s : State) : (clockStep s).mbc = s.mbc := rfl
@[simp] theorem clockStep_mems (s : State) : (clockStep s).mems = s.mems := rfl
@[simp] theorem clockStep_ppu (s : State) : (clockStep s).ppu = s.ppu := rfl
@[simp] theorem clockStep_params (s : State) : (clockStep s).params = s.params := rfl

/-! ### `dmaStart` -/

@[simp] theorem dmaStart_regs (v : Byte) (s : State) : (dmaStart s v).regs = s.regs := rfl
@[simp] theorem dmaStart_ctl (v : Byte) (s : State) : (dmaStart s v).ctl = s.ctl := rfl
@[simp] theorem dmaStart_ie (v : Byte) (s : State) : (dmaStart s v).ie = s.ie := rfl
@[simp] theorem dmaStart_irq (v : Byte) (s : State) : (dmaStart s v).irq = s.irq := rfl
@[simp] theorem dmaStart_clock (v : Byte) (s : State) : (dmaStart s v).clock = s.clock := rfl
@[simp] theorem dmaStart_joypad (v : Byte) (s : State) : (dmaStart s v).joypad = s.joypad := rfl
@[simp] theorem dmaStart_dma (v : Byte) (s : State) : (dmaStart s v).dma = { active := true, sourcePage := v, index := 0 } := rfl
@[simp] theorem dmaStart_timer (v : Byte) (s : State) : (dmaStart s v).timer = s.timer := rfl
@[simp] theorem dmaStart_bootMapped (v : Byte) (s : State) : (dmaStart s v).bootMapped = s.bootMapped := rfl
@[simp] theorem dmaStart_mbc (v : Byte) (s : State) : (dmaStart s v).mbc = s.mbc := rfl
@[simp] theorem dmaStart_mems (v : Byte) (s : State) : (dmaStart s v).mems = s.mems := rfl
@[simp] theorem dmaStart_ppu (v : Byte) (s : State) : (dmaStart s v).ppu = s.ppu := rfl
@[simp] theorem dmaStart_params (v : Byte) (s : State) : (dmaStart s v).params = s.params := rfl

/-! ### `timerStep` -/

@[simp] theorem timerStep_regs (s : State) : (timerStep s).regs = s.regs := rfl
@[simp] theorem timerStep_ctl (s : State) : (timerStep s).ctl = s.ctl := rfl
@[simp] theorem timerStep_ie (s : State) : (timerStep s).ie = s.ie := rfl
@[simp] theorem timerStep_irq (s : State) : (timerStep s).irq = if timaOverflows s.clock s.timer then s.irq ||| 0x04 else s.irq := rfl
@[simp] theorem timerStep_clock (s : State) : (timerStep s).clock = s.clock := rfl
@[simp] theorem timerStep_joypad (s : State) : (timerStep s).joypad = s.joypad := rfl
@[simp] theorem timerStep_dma (s : State) : (timerStep s).dma = s.dma := rfl
@[simp] theorem timerStep_timer (s : State) : (timerStep s).timer = { s.timer with div := divStep s.clock s.timer.div, tima := timaStep s.clock s.timer } := rfl
@[simp] theorem timerStep_bootMapped (s : State) : (timerStep s).bootMapped = s.bootMapped := rfl
@[simp] theorem timerStep_mbc (s : State) : (timerStep s).mbc = s.mbc := rfl
@[simp] theorem timerStep_mems (s : State) : (timerStep s).mems = s.mems := rfl
@[simp] theorem timerStep_ppu (s : State) : (timerStep s).ppu = s.ppu := rfl
@[simp] theorem timerStep_params (s : State) : (timerStep s).params = s.params := rfl

/-! ### `ppuStep` -/

@[simp] theorem ppuStep_regs (s : State) : (ppuStep s).regs = s.regs := rfl
@[simp] theorem ppuStep_ctl (s : State) : (ppuStep s).ctl = s.ctl := rfl
@[simp] theorem ppuStep_ie (s : State) : (ppuStep s).ie = s.ie := rfl
@[simp] theorem ppuStep_irq (s : State) : (ppuStep s).irq = s.irq ||| ppuRequests s.ppu := rfl
@[simp] theorem ppuStep_clock (s : State) : (ppuStep s).clock = s.clock := rfl
@[simp] theorem ppuStep_joypad (s : State) : (ppuStep s).joypad = s.joypad := rfl
@[simp] theorem ppuStep_dma (s : State) : (ppuStep s).dma = s.dma := rfl
@[simp] theorem ppuStep_timer (s : State) : (ppuStep s).timer = s.timer := rfl
@[simp] theorem ppuStep_bootMapped (s : State) : (ppuStep s).bootMapped = s.bootMapped := rfl
@[simp] theorem ppuStep_mbc (s : State) : (ppuStep s).mbc = s.mbc := rfl
@[simp] theorem ppuStep_mems (s : State) : (ppuStep s).mems = s.mems := rfl
@[simp] theorem ppuStep_ppu (s : State) : (ppuStep s).ppu = ppuAdvance (ppuEvent s.mems s.ppu) := rfl
@[simp] theorem ppuStep_params (s : State) : (ppuStep s).params = s.params := rfl

/-! ### `setReg` -/

@[simp] theorem setReg_ctl (r : Reg8) (v : Byte) (s : State) : (setReg r v s).ctl = s.ctl := by cases r <;> rfl
@[simp] theorem setReg_ie (r : Reg8) (v : Byte) (s : State) : (setReg r v s).ie = s.ie := by cases r <;> rfl
@[simp] theorem setReg_irq (r : Reg8) (v : Byte) (s : State) : (setReg r v s).irq = s.irq := by cases r <;> rfl
@[simp] theorem setReg_clock (r : Reg8) (v : Byte) (s : State) : (setReg r v s).clock = s.clock := by cases r <;> rfl
@[simp] theorem setReg_joypad (r : Reg8) (v : Byte) (s : State) : (setReg r v s).joypad = s.joypad := by cases r <;> rfl
@[simp] theorem setReg_dma (r : Reg8) (v : Byte) (s : State) : (setReg r v s).dma = s.dma := by cases r <;> rfl
@[simp] theorem setReg_timer (r : Reg8) (v : Byte) (s : State) : (setReg r v s).timer = s.timer := by cases r <;> rfl
@[simp] theorem setReg_bootMapped (r : Reg8) (v : Byte) (s : State) : (setReg r v s).bootMapped = s.bootMapped := by cases r <;> rfl
@[simp] theorem setReg_mbc (r : Reg8) (v : Byte) (s : State) : (setReg r v s).mbc = s.mbc := by cases r <;> rfl
@[simp] theorem setReg_mems (r : Reg8) (v : Byte) (s : State) : (setReg r v s).mems = s.mems := by cases r <;> rfl
@[simp] theorem setReg_ppu (r : Reg8) (v : Byte) (s : State) : (setReg r v s).ppu = s.ppu := by cases r <;> rfl
@[simp] theorem setReg_params (r : Reg8) (v : Byte) (s : State) : (setReg r v s).params = s.params := by cases r <;> rfl

/-! ### `setPair` -/

@[simp] theorem setPair_ctl (p : Pair) (v : Word) (s : State) : (setPair p v s).ctl = s.ctl := by cases p <;> rfl
@[simp] theorem setPair_ie (p : Pair) (v : Word) (s : State) : (setPair p v s).ie = s.ie := by cases p <;> rfl
@[simp] theorem setPair_irq (p : Pair) (v : Word) (s : State) : (setPair p v s).irq = s.irq := by cases p <;> rfl
@[simp] theorem setPair_clock (p : Pair) (v : Word) (s : State) : (setPair p v s).clock = s.clock := by cases p <;> rfl
@[simp] theorem setPair_joypad (p : Pair) (v : Word) (s : State) : (setPair p v s).joypad = s.joypad := by cases p <;> rfl
@[simp] theorem setPair_dma (p : Pair) (v : Word) (s : State) : (setPair p v s).dma = s.dma := by cases p <;> rfl
@[simp] theorem setPair_timer (p : Pair) (v : Word) (s : State) : (setPair p v s).timer = s.timer := by cases p <;> rfl
@[simp] theorem setPair_bootMapped (p : Pair) (v : Word) (s : State) : (setPair p v s).bootMapped = s.bootMapped := by cases p <;> rfl
@[simp] theorem setPair_mbc (p : Pair) (v : Word) (s : State) : (setPair p v s).mbc = s.mbc := by cases p <;> rfl
@[simp] theorem setPair_mems (p : Pair) (v : Word) (s : State) : (setPair p v s).mems = s.mems := by cases p <;> rfl
@[simp] theorem setPair_ppu (p : Pair) (v : Word) (s : State) : (setPair p v s).ppu = s.ppu := by cases p <;> rfl
@[simp] theorem setPair_params (p : Pair) (v : Word) (s : State) : (setPair p v s).params = s.params := by cases p <;> rfl

/-! ### `setStackPair` -/

@[simp] theorem setStackPair_ctl (p : StackPair) (v : Word) (s : State) : (setStackPair p v s).ctl = s.ctl := by cases p <;> rfl
@[simp] theorem setStackPair_ie (p : StackPair) (v : Word) (s : State) : (setStackPair p v s).ie = s.ie := by cases p <;> rfl
@[simp] theorem setStackPair_irq (p : StackPair) (v : Word) (s : State) : (setStackPair p v s).irq = s.irq := by cases p <;> rfl
@[simp] theorem setStackPair_clock (p : StackPair) (v : Word) (s : State) : (setStackPair p v s).clock = s.clock := by cases p <;> rfl
@[simp] theorem setStackPair_joypad (p : StackPair) (v : Word) (s : State) : (setStackPair p v s).joypad = s.joypad := by cases p <;> rfl
@[simp] theorem setStackPair_dma (p : StackPair) (v : Word) (s : State) : (setStackPair p v s).dma = s.dma := by cases p <;> rfl
@[simp] theorem setStackPair_timer (p : StackPair) (v : Word) (s : State) : (setStackPair p v s).timer = s.timer := by cases p <;> rfl
@[simp] theorem setStackPair_bootMapped (p : StackPair) (v : Word) (s : State) : (setStackPair p v s).bootMapped = s.bootMapped := by cases p <;> rfl
@[simp] theorem setStackPair_mbc (p : StackPair) (v : Word) (s : State) : (setStackPair p v s).mbc = s.mbc := by cases p <;> rfl
@[simp] theorem setStackPair_mems (p : StackPair) (v : Word) (s : State) : (setStackPair p v s).mems = s.mems := by cases p <;> rfl
@[simp] theorem setStackPair_ppu (p : StackPair) (v : Word) (s : State) : (setStackPair p v s).ppu = s.ppu := by cases p <;> rfl
@[simp] theorem setStackPair_params (p : StackPair) (v : Word) (s : State) : (setStackPair p v s).params = s.params := by cases p <;> rfl

@[simp] theorem setReg_f (r : Reg8) (v : Byte) (s : State) : (setReg r v s).regs.f = s.regs.f := by cases r <;> rfl
@[simp] theorem setReg_sp (r : Reg8) (v : Byte) (s : State) : (setReg r v s).regs.sp = s.regs.sp := by cases r <;> rfl
@[simp] theorem setReg_pc (r : Reg8) (v : Byte) (s : State) : (setReg r v s).regs.pc = s.regs.pc := by cases r <;> rfl
@[simp] theorem setPair_f (p : Pair) (v : Word) (s : State) : (setPair p v s).regs.f = s.regs.f := by cases p <;> rfl
@[simp] theorem setPair_pc (p : Pair) (v : Word) (s : State) : (setPair p v s).regs.pc = s.regs.pc := by cases p <;> rfl
@[simp] theorem setStackPair_sp (p : StackPair) (v : Word) (s : State) : (setStackPair p v s).regs.sp = s.regs.sp := by
  cases p <;> rfl
@[simp] theorem setStackPair_pc (p : StackPair) (v : Word) (s : State) : (setStackPair p v s).regs.pc = s.regs.pc := by
  cases p <;> rfl

/-- Reading a register after writing one. -/
@[simp] theorem getReg_setReg (r q : Reg8) (v : Byte) (s : State) :
    getReg q (setReg r v s) = if q = r then v else getReg q s := by
  cases r <;> cases q <;> rfl

@[simp] theorem getReg_setPc (q : Reg8) (v : Word) (s : State) : getReg q (setPc v s) = getReg q s := by cases q <;> rfl
@[simp] theorem getReg_setSp (q : Reg8) (v : Word) (s : State) : getReg q (setSp v s) = getReg q s := by cases q <;> rfl
@[simp] theorem getReg_setFlags (q : Reg8) (fl : Flags) (s : State) : getReg q (setFlags fl s) = getReg q s := by
  cases q <;> rfl

/-- Put the CPU's registers and control state in place of the state's own. -/
def withCpu (r : Regs) (c : Ctl) (s : State) : State := { s with regs := r, ctl := c }

@[simp] theorem withCpu_self (s : State) : withCpu s.regs s.ctl s = s := rfl
@[simp] theorem withCpu_withCpu (r r' : Regs) (c c' : Ctl) (s : State) : withCpu r c (withCpu r' c' s) = withCpu r c s := rfl
@[simp] theorem withCpu_regs (r : Regs) (c : Ctl) (s : State) : (withCpu r c s).regs = r := rfl
@[simp] theorem withCpu_ctl (r : Regs) (c : Ctl) (s : State) : (withCpu r c s).ctl = c := rfl

/-- The registers are read from `regs` alone. -/
theorem getReg_congr {s t : State} (h : s.regs = t.regs) (q : Reg8) : getReg q s = getReg q t := by
  cases q <;> simp [getReg, h]

theorem getPair_congr {s t : State} (h : s.regs = t.regs) (p : Pair) : getPair p s = getPair p t := by
  cases p <;> simp [getPair, hlPair, h]

theorem getStackPair_congr {s t : State} (h : s.regs = t.regs) (p : StackPair) : getStackPair p s = getStackPair p t := by
  cases p <;> simp [getStackPair, getPair, hlPair, h]

theorem flags_congr {s t : State} (h : s.regs = t.regs) : s.flags = t.flags := by simp [State.flags, h]

theorem condHolds_congr {s t : State} (h : s.regs = t.regs) (cc : Cond) : condHolds cc s = condHolds cc t := by
  cases cc <;> simp [condHolds, flags_congr h]

end Sys2Proof.Machine
end

