-- ==== Sys2Proof/Laws/Bus.lean ====
section
/-! SUPPORT. Sys2Proof/Laws/Bus.lean: what a bus read depends on, what a bus write leaves alone, and the ranges of the device
table. -/

namespace Sys2Proof.Machine

/-! ### What bus operations do not touch -/

@[simp] theorem busWrite_regs (s : State) (a : Word) (v : Byte) : (busWrite s a v).regs = s.regs := by
  unfold busWrite
  cases deviceAt s.bootMapped a <;> simp only [deviceWrite, cartRomWrite, ioWrite, dmaStart] <;> (repeat' split) <;> rfl

@[simp] theorem busWrite_ctl (s : State) (a : Word) (v : Byte) : (busWrite s a v).ctl = s.ctl := by
  unfold busWrite
  cases deviceAt s.bootMapped a <;> simp only [deviceWrite, cartRomWrite, ioWrite, dmaStart] <;> (repeat' split) <;> rfl

@[simp] theorem busWrite_params (s : State) (a : Word) (v : Byte) : (busWrite s a v).params = s.params := by
  unfold busWrite
  cases deviceAt s.bootMapped a <;> simp only [deviceWrite, cartRomWrite, ioWrite, dmaStart] <;> (repeat' split) <;> rfl

@[simp] theorem busWrite_clock (s : State) (a : Word) (v : Byte) : (busWrite s a v).clock = s.clock := by
  unfold busWrite
  cases deviceAt s.bootMapped a <;> simp only [deviceWrite, cartRomWrite, ioWrite, dmaStart] <;> (repeat' split) <;> rfl

/-- A bus read looks at neither the CPU's registers nor its control state (R61). -/
theorem busRead_cpu (s : State) (r : Regs) (c : Ctl) (a : Word) : busRead (withCpu r c s) a = busRead s a :=
  rfl

@[simp] theorem busRead_setPc (v : Word) (s : State) (a : Word) : busRead (setPc v s) a = busRead s a := rfl
@[simp] theorem busRead_setSp (v : Word) (s : State) (a : Word) : busRead (setSp v s) a = busRead s a := rfl
@[simp] theorem busRead_setFlags (fl : Flags) (s : State) (a : Word) : busRead (setFlags fl s) a = busRead s a := rfl
@[simp] theorem busRead_setIme (v : Bool) (s : State) (a : Word) : busRead (setIme v s) a = busRead s a := rfl
@[simp] theorem busRead_setHalt (v : Bool) (s : State) (a : Word) : busRead (setHalt v s) a = busRead s a := rfl
@[simp] theorem busRead_setReg (r : Reg8) (v : Byte) (s : State) (a : Word) : busRead (setReg r v s) a = busRead s a := by
  cases r <;> rfl

/-- A bus write commutes with a change of the CPU's own state. -/
theorem busWrite_cpu (s : State) (r : Regs) (c : Ctl) (a : Word) (v : Byte) :
    busWrite (withCpu r c s) a v = withCpu r c (busWrite s a v) := by
  unfold busWrite
  show deviceWrite (withCpu r c s) (deviceAt s.bootMapped a) v = _
  cases deviceAt s.bootMapped a with
  | cartRom k =>
    simp only [deviceWrite, cartRomWrite]
    show (match s.params.cartKind with | .rom0 => _ | .mbc1 => _) = _
    cases s.params.cartKind with
    | rom0 => rfl
    | mbc1 => dsimp only; by_cases h : k < 0x2000 <;> by_cases h' : k < 0x4000 <;> simp [h, h', withCpu]
  | cartRam k =>
    simp only [deviceWrite]
    have : cartRamEnabled (withCpu r c s) = cartRamEnabled s := rfl
    rw [this]
    split <;> rfl
  | io q => cases q <;> rfl
  | bootUnmap => simp only [deviceWrite]; split <;> rfl
  | _ => rfl

/-! ### The device table by range -/

theorem deviceAt_rom (b : Bool) (a : Word) (h : a.toNat < 0x8000) (h' : 0x100 ≤ a.toNat ∨ b = false) :
    deviceAt b a = .cartRom a.toNat := by
  unfold deviceAt
  have : ¬((decide (a.toNat < 0x100) && b) = true) := by
    rw [Bool.and_eq_true, decide_eq_true_eq]
    rintro ⟨h1, rfl⟩
    rcases h' with h' | h'
    · omega
    · cases h'
  simp only [this, h]
  simp

theorem deviceAt_bootRom (a : Word) (h : a.toNat < 0x100) : deviceAt true a = .bootRom a.toNat := by
  unfold deviceAt
  simp [h]

theorem deviceAt_vram (b : Bool) (a : Word) (h : 0x8000 ≤ a.toNat) (h' : a.toNat < 0xA000) :
    deviceAt b a = .vram (a.toNat - 0x8000) := by
  unfold deviceAt
  have h1 : ¬((decide (a.toNat < 0x100) && b) = true) := by simp; omega
  simp only [h1]
  rw [if_neg (by simp), if_neg (by omega), if_pos h']

theorem deviceAt_cartRam (b : Bool) (a : Word) (h : 0xA000 ≤ a.toNat) (h' : a.toNat < 0xC000) :
    deviceAt b a = .cartRam (a.toNat - 0xA000) := by
  unfold deviceAt
  have h1 : ¬((decide (a.toNat < 0x100) && b) = true) := by simp; omega
  simp only [h1]
  rw [if_neg (by simp), if_neg (by omega), if_neg (by omega), if_pos h']

theorem deviceAt_wram (b : Bool) (a : Word) (h : 0xC000 ≤ a.toNat) (h' : a.toNat < 0xFE00) :
    deviceAt b a = .wram (a.toNat % 0x2000) := by
  unfold deviceAt
  have h1 : ¬((decide (a.toNat < 0x100) && b) = true) := by simp; omega
  simp only [h1]
  rw [if_neg (by simp), if_neg (by omega), if_neg (by omega), if_neg (by omega), if_pos h']

theorem deviceAt_oam (b : Bool) (a : Word) (h : 0xFE00 ≤ a.toNat) (h' : a.toNat < 0xFEA0) :
    deviceAt b a = .oam (a.toNat - 0xFE00) := by
  unfold deviceAt
  have h1 : ¬((decide (a.toNat < 0x100) && b) = true) := by simp; omega
  simp only [h1]
  rw [if_neg (by simp), if_neg (by omega), if_neg (by omega), if_neg (by omega), if_neg (by omega), if_pos h']

theorem deviceAt_gap (b : Bool) (a : Word) (h : 0xFEA0 ≤ a.toNat) (h' : a.toNat < 0xFF00) : deviceAt b a = .unmapped := by
  unfold deviceAt
  have h1 : ¬((decide (a.toNat < 0x100) && b) = true) := by simp; omega
  simp only [h1]
  rw [if_neg (by simp), if_neg (by omega), if_neg (by omega), if_neg (by omega), if_neg (by omega), if_neg (by omega),
    if_pos h']

theorem deviceAt_page (b : Bool) (a : Word) (h : 0xFF00 ≤ a.toNat) (h' : a.toNat < 0xFF80) :
    deviceAt b a = pageDevice (a.toNat - 0xFF00) := by
  unfold deviceAt
  have h1 : ¬((decide (a.toNat < 0x100) && b) = true) := by simp; omega
  simp only [h1]
  rw [if_neg (by simp), if_neg (by omega), if_neg (by omega), if_neg (by omega), if_neg (by omega), if_neg (by omega),
    if_neg (by omega), if_pos h']

theorem deviceAt_hram (b : Bool) (a : Word) (h : 0xFF80 ≤ a.toNat) (h' : a.toNat < 0xFFFF) :
    deviceAt b a = .hram (a.toNat - 0xFF80) := by
  unfold deviceAt
  have h1 : ¬((decide (a.toNat < 0x100) && b) = true) := by simp; omega
  simp only [h1]
  rw [if_neg (by simp), if_neg (by omega), if_neg (by omega), if_neg (by omega), if_neg (by omega), if_neg (by omega),
    if_neg (by omega), if_neg (by omega), if_pos h']

theorem deviceAt_ie (b : Bool) : deviceAt b 0xFFFF = .ie := by cases b <;> decide

theorem pageDevice_unmapped {n : Nat} (hn : n < 0x80) (h : (0x10 ≤ n ∧ n ≤ 0x3F) ∨ (0x4C ≤ n ∧ n ≠ 0x50)) :
    pageDevice n = .unmapped := by
  have all : ∀ k : Fin 0x80, (0x10 ≤ k.val ∧ k.val ≤ 0x3F) ∨ (0x4C ≤ k.val ∧ k.val ≠ 0x50) → pageDevice k = .unmapped := by
    decide
  exact all ⟨n, hn⟩ h

/-- Nothing answers at `0xFF10` to `0xFF3F` and `0xFF4C` to `0xFF7F` but for `0xFF50` (R66). -/
theorem deviceAt_unmapped (b : Bool) (a : Word)
    (h : (0xFF10 ≤ a.toNat ∧ a.toNat ≤ 0xFF3F) ∨ (0xFF4C ≤ a.toNat ∧ a.toNat ≤ 0xFF7F ∧ a.toNat ≠ 0xFF50)) :
    deviceAt b a = .unmapped := by
  rw [deviceAt_page b a (by omega) (by omega)]
  exact pageDevice_unmapped (by omega) (by omega)

theorem deviceAt_bootUnmap (b : Bool) : deviceAt b 0xFF50 = .bootUnmap := by
  rw [deviceAt_page b 0xFF50 (by decide) (by decide), show (0xFF50 : Word).toNat - 0xFF00 = 0x50 by decide]
  decide

end Sys2Proof.Machine
end

