-- ==== Sys2Proof/Laws/Ops.lean ====
section
/-! SUPPORT. Sys2Proof/Laws/Ops.lean: what each shared operation of Machine/Ops.lean and Machine/Fetch.lean does, said once:
which fields time leaves alone, that time does not look at the CPU's own registers, and one lemma for each access. -/

namespace Sys2Proof.Machine

/-! ### The agents' steps -/

@[simp] theorem dmaStep_regs (s : State) : (dmaStep s).regs = s.regs := by unfold dmaStep; split <;> rfl
@[simp] theorem dmaStep_ctl (s : State) : (dmaStep s).ctl = s.ctl := by unfold dmaStep; split <;> rfl
@[simp] theorem dmaStep_ie (s : State) : (dmaStep s).ie = s.ie := by unfold dmaStep; split <;> rfl
@[simp] theorem dmaStep_clock (s : State) : (dmaStep s).clock = s.clock := by unfold dmaStep; split <;> rfl
@[simp] theorem dmaStep_joypad (s : State) : (dmaStep s).joypad = s.joypad := by unfold dmaStep; split <;> rfl
@[simp] theorem dmaStep_timer (s : State) : (dmaStep s).timer = s.timer := by unfold dmaStep; split <;> rfl
@[simp] theorem dmaStep_bootMapped (s : State) : (dmaStep s).bootMapped = s.bootMapped := by unfold dmaStep; split <;> rfl
@[simp] theorem dmaStep_mbc (s : State) : (dmaStep s).mbc = s.mbc := by unfold dmaStep; split <;> rfl
@[simp] theorem dmaStep_ppu (s : State) : (dmaStep s).ppu = s.ppu := by unfold dmaStep; split <;> rfl
@[simp] theorem dmaStep_params (s : State) : (dmaStep s).params = s.params := by unfold dmaStep; split <;> rfl
@[simp] theorem dmaStep_irq (s : State) : (dmaStep s).irq = s.irq := by unfold dmaStep; split <;> rfl

/-- The DMA step looks at neither the CPU's registers nor its control state. -/
theorem dmaStep_cpu (s : State) (r : Regs) (c : Ctl) :
    dmaStep (withCpu r c s) = withCpu r c (dmaStep s) := by
  unfold dmaStep
  show (if s.dma.active then _ else _) = _
  split <;> rfl

/-! ### Ticks and machine cycles -/

@[simp] theorem tick_regs (s : State) : (tick s).regs = s.regs := by simp [tick, audioStep]
@[simp] theorem tick_ctl (s : State) : (tick s).ctl = s.ctl := by simp [tick, audioStep]
@[simp] theorem tick_ie (s : State) : (tick s).ie = s.ie := by simp [tick, audioStep]
@[simp] theorem tick_joypad (s : State) : (tick s).joypad = s.joypad := by simp [tick, audioStep]
@[simp] theorem tick_bootMapped (s : State) : (tick s).bootMapped = s.bootMapped := by simp [tick, audioStep]
@[simp] theorem tick_mbc (s : State) : (tick s).mbc = s.mbc := by simp [tick, audioStep]
@[simp] theorem tick_params (s : State) : (tick s).params = s.params := by simp [tick, audioStep]
@[simp] theorem tick_clock (s : State) : (tick s).clock = s.clock + 1 := by simp [tick, audioStep]

/-- Every request bit that was set stays set: a tick only raises (R285). -/
theorem tick_irq (s : State) :
    (tick s).irq = if timaOverflows s.clock s.timer then (s.irq ||| ppuRequests s.ppu) ||| 0x04
      else s.irq ||| ppuRequests s.ppu := by
  simp [tick, audioStep]

@[simp] theorem tick_timer (s : State) :
    (tick s).timer = { s.timer with div := divStep s.clock s.timer.div, tima := timaStep s.clock s.timer } := by
  simp [tick, audioStep]

@[simp] theorem tick_dma (s : State) : (tick s).dma = if s.dma.active then dmaAdvance s.dma else s.dma := by
  simp only [tick, clockStep_dma, timerStep_dma, audioStep, ppuStep_dma, dmaStep]
  split <;> rfl

theorem tick_mems (s : State) :
    (tick s).mems =
      if s.dma.active then
        { s.mems with oam := Memory.write .oam s.mems.oam s.dma.index (busRead s (dmaSource s.dma)) }
      else s.mems := by
  simp only [tick, clockStep_mems, timerStep_mems, audioStep, ppuStep_mems, dmaStep]
  split <;> rfl

theorem tick_ppu (s : State) : (tick s).ppu = ppuAdvance (ppuEvent (tick s).mems s.ppu) := by
  simp [tick, audioStep]

@[simp] theorem tick_vram (s : State) : (tick s).mems.vram = s.mems.vram := by rw [tick_mems]; split <;> rfl
@[simp] theorem tick_wram (s : State) : (tick s).mems.wram = s.mems.wram := by rw [tick_mems]; split <;> rfl
@[simp] theorem tick_hram (s : State) : (tick s).mems.hram = s.mems.hram := by rw [tick_mems]; split <;> rfl
@[simp] theorem tick_cartRam (s : State) : (tick s).mems.cartRam = s.mems.cartRam := by rw [tick_mems]; split <;> rfl

/-- A tick looks at neither the CPU's registers nor its control state (R20, R302). -/
theorem tick_cpu (s : State) (r : Regs) (c : Ctl) : tick (withCpu r c s) = withCpu r c (tick s) := by
  unfold tick
  rw [dmaStep_cpu]
  rfl

@[simp] theorem cycle_regs (s : State) : (cycle s).regs = s.regs := by simp [cycle]
@[simp] theorem cycle_ctl (s : State) : (cycle s).ctl = s.ctl := by simp [cycle]
@[simp] theorem cycle_ie (s : State) : (cycle s).ie = s.ie := by simp [cycle]
@[simp] theorem cycle_joypad (s : State) : (cycle s).joypad = s.joypad := by simp [cycle]
@[simp] theorem cycle_bootMapped (s : State) : (cycle s).bootMapped = s.bootMapped := by simp [cycle]
@[simp] theorem cycle_mbc (s : State) : (cycle s).mbc = s.mbc := by simp [cycle]
@[simp] theorem cycle_params (s : State) : (cycle s).params = s.params := by simp [cycle]
@[simp] theorem cycle_vram (s : State) : (cycle s).mems.vram = s.mems.vram := by simp [cycle]
@[simp] theorem cycle_wram (s : State) : (cycle s).mems.wram = s.mems.wram := by simp [cycle]
@[simp] theorem cycle_hram (s : State) : (cycle s).mems.hram = s.mems.hram := by simp [cycle]
@[simp] theorem cycle_cartRam (s : State) : (cycle s).mems.cartRam = s.mems.cartRam := by simp [cycle]
@[simp] theorem cycle_clock (s : State) : (cycle s).clock = s.clock + 4 := by simp [cycle]

/-- A machine cycle looks at neither the CPU's registers nor its control state. -/
theorem cycle_cpu (s : State) (r : Regs) (c : Ctl) :
    cycle (withCpu r c s) = withCpu r c (cycle s) := by
  unfold cycle
  rw [tick_cpu, tick_cpu, tick_cpu, tick_cpu]

@[simp] theorem cycles_regs (n : Nat) (s : State) : (cycles n s).regs = s.regs := by
  induction n generalizing s with
  | zero => rfl
  | succ n ih => rw [cycles, ih]; simp
@[simp] theorem cycles_ctl (n : Nat) (s : State) : (cycles n s).ctl = s.ctl := by
  induction n generalizing s with
  | zero => rfl
  | succ n ih => rw [cycles, ih]; simp
@[simp] theorem cycles_ie (n : Nat) (s : State) : (cycles n s).ie = s.ie := by
  induction n generalizing s with
  | zero => rfl
  | succ n ih => rw [cycles, ih]; simp
@[simp] theorem cycles_joypad (n : Nat) (s : State) : (cycles n s).joypad = s.joypad := by
  induction n generalizing s with
  | zero => rfl
  | succ n ih => rw [cycles, ih]; simp
@[simp] theorem cycles_bootMapped (n : Nat) (s : State) : (cycles n s).bootMapped = s.bootMapped := by
  induction n generalizing s with
  | zero => rfl
  | succ n ih => rw [cycles, ih]; simp
@[simp] theorem cycles_mbc (n : Nat) (s : State) : (cycles n s).mbc = s.mbc := by
  induction n generalizing s with
  | zero => rfl
  | succ n ih => rw [cycles, ih]; simp
@[simp] theorem cycles_params (n : Nat) (s : State) : (cycles n s).params = s.params := by
  induction n generalizing s with
  | zero => rfl
  | succ n ih => rw [cycles, ih]; simp
@[simp] theorem cycles_clock (n : Nat) (s : State) : (cycles n s).clock = s.clock + 4 * n := by
  induction n generalizing s with
  | zero => rfl
  | succ n ih => rw [cycles, ih]; simp only [cycle_clock]; omega

theorem cycles_cpu (n : Nat) (s : State) (r : Regs) (c : Ctl) :
    cycles n (withCpu r c s) = withCpu r c (cycles n s) := by
  induction n generalizing s with
  | zero => rfl
  | succ n ih => rw [cycles, cycle_cpu, ih]; rfl

/-- Machine cycles add up. -/
theorem cycles_cycles (m n : Nat) (s : State) : cycles m (cycles n s) = cycles (n + m) s := by
  induction n generalizing s with
  | zero => simp [cycles]
  | succ n ih => rw [cycles, ih, Nat.succ_add]; rfl

/-! ### A change of the CPU's own state can be moved past time and past an access -/

/-- An operation that never looks at the CPU's own state. -/
def CpuBlind (f : State → State) : Prop :=
  ∀ (s : State) (r : Regs) (c : Ctl), f (withCpu r c s) = withCpu r c (f s)

theorem cpuBlind_cycle : CpuBlind cycle := cycle_cpu
theorem cpuBlind_cycles (n : Nat) : CpuBlind (cycles n) := cycles_cpu n
theorem cpuBlind_busWrite (a : Word) (v : Byte) : CpuBlind fun s => busWrite s a v := fun s r c => busWrite_cpu s r c a v
theorem cpuBlind_memWrite (a : Word) (v : Byte) : CpuBlind (memWrite a v) := fun s r c => by
  unfold memWrite
  rw [busWrite_cpu, cycle_cpu]

@[simp] theorem memWrite_regs (a : Word) (v : Byte) (s : State) : (memWrite a v s).regs = s.regs := by simp [memWrite]
@[simp] theorem memWrite_ctl (a : Word) (v : Byte) (s : State) : (memWrite a v s).ctl = s.ctl := by simp [memWrite]
@[simp] theorem memWrite_params (a : Word) (v : Byte) (s : State) : (memWrite a v s).params = s.params := by simp [memWrite]
@[simp] theorem memWrite_clock (a : Word) (v : Byte) (s : State) : (memWrite a v s).clock = s.clock + 4 := by simp [memWrite]

@[simp] theorem cycle_setPc (v : Word) (s : State) : cycle (setPc v s) = setPc v (cycle s) := by
  have h := cpuBlind_cycle s (setPc v s).regs s.ctl
  simpa [withCpu, setPc] using h
@[simp] theorem cycle_setSp (v : Word) (s : State) : cycle (setSp v s) = setSp v (cycle s) := by
  have h := cpuBlind_cycle s (setSp v s).regs s.ctl
  simpa [withCpu, setSp] using h
@[simp] theorem cycle_setFlags (fl : Flags) (s : State) : cycle (setFlags fl s) = setFlags fl (cycle s) := by
  have h := cpuBlind_cycle s (setFlags fl s).regs s.ctl
  simpa [withCpu, setFlags] using h
@[simp] theorem cycle_setIme (b : Bool) (s : State) : cycle (setIme b s) = setIme b (cycle s) := by
  have h := cpuBlind_cycle s s.regs (setIme b s).ctl
  simpa [withCpu, setIme] using h
@[simp] theorem cycle_setHalt (b : Bool) (s : State) : cycle (setHalt b s) = setHalt b (cycle s) := by
  have h := cpuBlind_cycle s s.regs (setHalt b s).ctl
  simpa [withCpu, setHalt] using h
@[simp] theorem cycle_setReg (r : Reg8) (v : Byte) (s : State) : cycle (setReg r v s) = setReg r v (cycle s) := by
  have h := cpuBlind_cycle s (setReg r v s).regs s.ctl
  cases r <;> simpa [withCpu, setReg, setPair, setStackPair, setSp] using h
@[simp] theorem cycle_setPair (p : Pair) (v : Word) (s : State) : cycle (setPair p v s) = setPair p v (cycle s) := by
  have h := cpuBlind_cycle s (setPair p v s).regs s.ctl
  cases p <;> simpa [withCpu, setReg, setPair, setStackPair, setSp] using h
@[simp] theorem cycle_setStackPair (p : StackPair) (v : Word) (s : State) : cycle (setStackPair p v s) = setStackPair p v (cycle s) := by
  have h := cpuBlind_cycle s (setStackPair p v s).regs s.ctl
  cases p <;> simpa [withCpu, setReg, setPair, setStackPair, setSp] using h
@[simp] theorem cycles_setPc (n : Nat) (v : Word) (s : State) : cycles n (setPc v s) = setPc v (cycles n s) := by
  have h := (cpuBlind_cycles n) s (setPc v s).regs s.ctl
  simpa [withCpu, setPc] using h
@[simp] theorem cycles_setSp (n : Nat) (v : Word) (s : State) : cycles n (setSp v s) = setSp v (cycles n s) := by
  have h := (cpuBlind_cycles n) s (setSp v s).regs s.ctl
  simpa [withCpu, setSp] using h
@[simp] theorem cycles_setFlags (n : Nat) (fl : Flags) (s : State) : cycles n (setFlags fl s) = setFlags fl (cycles n s) := by
  have h := (cpuBlind_cycles n) s (setFlags fl s).regs s.ctl
  simpa [withCpu, setFlags] using h
@[simp] theorem cycles_setIme (n : Nat) (b : Bool) (s : State) : cycles n (setIme b s) = setIme b (cycles n s) := by
  have h := (cpuBlind_cycles n) s s.regs (setIme b s).ctl
  simpa [withCpu, setIme] using h
@[simp] theorem cycles_setHalt (n : Nat) (b : Bool) (s : State) : cycles n (setHalt b s) = setHalt b (cycles n s) := by
  have h := (cpuBlind_cycles n) s s.regs (setHalt b s).ctl
  simpa [withCpu, setHalt] using h
@[simp] theorem cycles_setReg (n : Nat) (r : Reg8) (v : Byte) (s : State) : cycles n (setReg r v s) = setReg r v (cycles n s) := by
  have h := (cpuBlind_cycles n) s (setReg r v s).regs s.ctl
  cases r <;> simpa [withCpu, setReg, setPair, setStackPair, setSp] using h
@[simp] theorem cycles_setPair (n : Nat) (p : Pair) (v : Word) (s : State) : cycles n (setPair p v s) = setPair p v (cycles n s) := by
  have h := (cpuBlind_cycles n) s (setPair p v s).regs s.ctl
  cases p <;> simpa [withCpu, setReg, setPair, setStackPair, setSp] using h
@[simp] theorem cycles_setStackPair (n : Nat) (p : StackPair) (v : Word) (s : State) : cycles n (setStackPair p v s) = setStackPair p v (cycles n s) := by
  have h := (cpuBlind_cycles n) s (setStackPair p v s).regs s.ctl
  cases p <;> simpa [withCpu, setReg, setPair, setStackPair, setSp] using h
@[simp] theorem memWrite_setPc (a : Word) (w : Byte) (v : Word) (s : State) : memWrite a w (setPc v s) = setPc v (memWrite a w s) := by
  have h := (cpuBlind_memWrite a w) s (setPc v s).regs s.ctl
  simpa [withCpu, setPc] using h
@[simp] theorem memWrite_setSp (a : Word) (w : Byte) (v : Word) (s : State) : memWrite a w (setSp v s) = setSp v (memWrite a w s) := by
  have h := (cpuBlind_memWrite a w) s (setSp v s).regs s.ctl
  simpa [withCpu, setSp] using h
@[simp] theorem memWrite_setFlags (a : Word) (w : Byte) (fl : Flags) (s : State) : memWrite a w (setFlags fl s) = setFlags fl (memWrite a w s) := by
  have h := (cpuBlind_memWrite a w) s (setFlags fl s).regs s.ctl
  simpa [withCpu, setFlags] using h
@[simp] theorem memWrite_setIme (a : Word) (w : Byte) (b : Bool) (s : State) : memWrite a w (setIme b s) = setIme b (memWrite a w s) := by
  have h := (cpuBlind_memWrite a w) s s.regs (setIme b s).ctl
  simpa [withCpu, setIme] using h
@[simp] theorem memWrite_setHalt (a : Word) (w : Byte) (b : Bool) (s : State) : memWrite a w (setHalt b s) = setHalt b (memWrite a w s) := by
  have h := (cpuBlind_memWrite a w) s s.regs (setHalt b s).ctl
  simpa [withCpu, setHalt] using h
@[simp] theorem memWrite_setReg (a : Word) (w : Byte) (r : Reg8) (v : Byte) (s : State) : memWrite a w (setReg r v s) = setReg r v (memWrite a w s) := by
  have h := (cpuBlind_memWrite a w) s (setReg r v s).regs s.ctl
  cases r <;> simpa [withCpu, setReg, setPair, setStackPair, setSp] using h
@[simp] theorem memWrite_setPair (a : Word) (w : Byte) (p : Pair) (v : Word) (s : State) : memWrite a w (setPair p v s) = setPair p v (memWrite a w s) := by
  have h := (cpuBlind_memWrite a w) s (setPair p v s).regs s.ctl
  cases p <;> simpa [withCpu, setReg, setPair, setStackPair, setSp] using h
@[simp] theorem memWrite_setStackPair (a : Word) (w : Byte) (p : StackPair) (v : Word) (s : State) : memWrite a w (setStackPair p v s) = setStackPair p v (memWrite a w s) := by
  have h := (cpuBlind_memWrite a w) s (setStackPair p v s).regs s.ctl
  cases p <;> simpa [withCpu, setReg, setPair, setStackPair, setSp] using h

/-! ### Accesses -/

/-- A 16-bit store is two byte stores (R12). -/
theorem memWrite16_eq (a v : Word) (s : State) :
    memWrite16 a v s = memWrite (a + 1) (hiByte v) (memWrite a (loByte v) s) := rfl

/-- All a push does (R15): the two stores, high byte first, and `SP` two lower. -/
theorem push16_eq (v : Word) (s : State) :
    push16 v s =
      setSp (s.regs.sp - 2) (memWrite (s.regs.sp - 2) (loByte v) (memWrite (s.regs.sp - 1) (hiByte v) s)) := by
  have h : s.regs.sp - 1 - 1 = s.regs.sp - 2 := by
    rw [BitVec.sub_sub]; rfl
  simp only [push16, pushByte, memWrite_setSp, setSp_regs_sp, h]
  rfl

/-- All a pop does before its word is used (R15): the two reads, low byte first, and `SP` two higher. -/
theorem withPop16_eq (k : Word → State → State) (s : State) :
    withPop16 k s =
      k (mkWord (busRead (cycle s) (s.regs.sp + 1)) (busRead s s.regs.sp)) (setSp (s.regs.sp + 2) (cycle (cycle s))) := by
  have h : s.regs.sp + 1 + 1 = s.regs.sp + 2 := by
    rw [BitVec.add_assoc]; rfl
  simp only [withPop16, withPopByte, withRead, cycle_setSp, setSp_regs_sp, busRead_setSp, cycle_regs, h]
  rfl

/-- All a fetch does (R13). -/
theorem afterFetches_eq (n : Nat) (s : State) :
    afterFetches n s = setPc (s.regs.pc + BitVec.ofNat 16 n) (cycles n s) := by
  induction n generalizing s with
  | zero =>
    show s = setPc (s.regs.pc + 0#16) s
    rw [BitVec.add_zero]; rfl
  | succ n ih =>
    have h : s.regs.pc + 1 + BitVec.ofNat 16 n = s.regs.pc + BitVec.ofNat 16 (n + 1) := by
      rw [BitVec.add_assoc]; congr 1; apply BitVec.eq_of_toNat_eq; simp [Nat.add_comm]
    rw [afterFetches, ih, afterFetch]
    simp only [setPc_regs_pc, cycles_setPc, h]
    rfl

/-- All interrupt entry does (R293). -/
theorem interruptEntry_eq (s : State) :
    interruptEntry s =
      setPc (interruptVector (lowestPending (pendingInterrupts s)))
        (push16 s.regs.pc
          (cycles s.params.intEntryInternalMc (setIme false (acknowledge (lowestPending (pendingInterrupts s)) s)))) := by
  simp [interruptEntry]

/-- All the return from an interrupt does (R249). -/
theorem interruptReturn_eq (s : State) :
    interruptReturn s =
      setIme true
        (setPc (mkWord (busRead (cycle s) (s.regs.sp + 1)) (busRead s s.regs.sp)) (setSp (s.regs.sp + 2) (cycles 3 s))) := by
  simp [interruptReturn, withPop16_eq, cycles]

/-! ### The order of bytes (R6) -/

@[simp] theorem mkWord_hiByte_loByte (w : Word) : mkWord (hiByte w) (loByte w) = w := by
  apply BitVec.eq_of_getLsbD_eq
  intro i hi
  simp only [mkWord, hiByte, loByte, BitVec.getLsbD_append, BitVec.getLsbD_extractLsb']
  by_cases h : i < 8
  · simp [h]
  · have : i - 8 < 8 := by omega
    have e : 8 + (i - 8) = i := by omega
    simp [h, this, e]

@[simp] theorem hiByte_mkWord (h l : Byte) : hiByte (mkWord h l) = h := by
  apply BitVec.eq_of_getLsbD_eq
  intro i hi
  simp only [mkWord, hiByte, BitVec.getLsbD_append, BitVec.getLsbD_extractLsb', hi]
  simp

@[simp] theorem loByte_mkWord (h l : Byte) : loByte (mkWord h l) = l := by
  apply BitVec.eq_of_getLsbD_eq
  intro i hi
  simp only [mkWord, loByte, BitVec.getLsbD_append, BitVec.getLsbD_extractLsb', hi]
  simp [hi]

end Sys2Proof.Machine
end

