-- ==== Sys2Proof/Laws/Cases.lean ====
section
/-! SUPPORT. Sys2Proof/Laws/Cases.lean: case analysis over all instructions by the table they stand in, so that a claim about
every instruction has one case for each shared meaning and not one for each constructor. -/

namespace Sys2Proof.Machine

/-- The undefined opcodes with their bytes (R108). -/
def undefinedInstrs : List (Instr × Byte) :=
  [(.undefD3, 0xD3), (.undefDB, 0xDB), (.undefDD, 0xDD), (.undefE3, 0xE3), (.undefE4, 0xE4), (.undefEB, 0xEB),
    (.undefEC, 0xEC), (.undefED, 0xED), (.undefF4, 0xF4), (.undefFC, 0xFC), (.undefFD, 0xFD)]

/-- Every instruction answers a next state, and what holds of every shared meaning holds of every instruction. -/
theorem exec_cases {P : Instr → State → Prop} (s : State)
    (ldRegs : ∀ dst r, P (ldInstr (.reg dst) (.reg r)) (ldRegReg dst r s))
    (ldLoad : ∀ dst, P (ldInstr (.reg dst) .atHL) (ldRegAtHL dst s))
    (ldStore : ∀ r, P (ldInstr .atHL (.reg r)) (ldAtHLReg r s))
    (ldN : ∀ o n, P (ldNInstr o n) (ldOperandN o n s))
    (ldAAtBC : P .ldAAtBC (loadAAtPair .bc s)) (ldAAtDE : P .ldAAtDE (loadAAtPair .de s))
    (ldAtBCA : P .ldAtBCA (storeAAtPair .bc s)) (ldAtDEA : P .ldAtDEA (storeAAtPair .de s))
    (ldAAtNn : ∀ nn, P (.ldAAtNn nn) (loadAAbsolute nn s)) (ldAtNnA : ∀ nn, P (.ldAtNnA nn) (storeAAbsolute nn s))
    (ldhAAtN : ∀ n, P (.ldhAAtN n) (loadAHighPage n s)) (ldhAtNA : ∀ n, P (.ldhAtNA n) (storeAHighPage n s))
    (ldAAtC : P .ldAAtC (loadAAtC s)) (ldAtCA : P .ldAtCA (storeAAtC s))
    (ldAtHLIncA : P .ldAtHLIncA (storeAAtHLInc s)) (ldAAtHLInc : P .ldAAtHLInc (loadAAtHLInc s))
    (ldAtHLDecA : P .ldAtHLDecA (storeAAtHLDec s)) (ldAAtHLDec : P .ldAAtHLDec (loadAAtHLDec s))
    (ldPair : ∀ p nn, P (ldPairInstr p nn) (ldPairNn p nn s)) (ldAtNnSP : ∀ nn, P (.ldAtNnSP nn) (ldAtNnSP nn s))
    (ldSPHL : P .ldSPHL (ldSPHL s)) (ldHLSPE : ∀ e, P (.ldHLSPE e) (ldHLSPE e s))
    (pushP : ∀ p, P (pushInstr p) (pushPair p s)) (popP : ∀ p, P (popInstr p) (popPair p s))
    (alu : ∀ op o, P (aluInstr op o) (aluOperand op o s)) (aluN : ∀ op n, P (aluNInstr op n) (aluImmediate op n s))
    (inc : ∀ o, P (incInstr o) (incOperand o s)) (dec : ∀ o, P (decInstr o) (decOperand o s))
    (daa : P .daa (decimalAdjust s)) (cpl : P .cpl (complementA s)) (scf : P .scf (setCarry s))
    (ccf : P .ccf (complementCarry s))
    (addHL : ∀ p, P (addHLInstr p) (addHLPair p s)) (incPair : ∀ p, P (incPairInstr p) (incPair p s))
    (decPair : ∀ p, P (decPairInstr p) (decPair p s)) (addSPE : ∀ e, P (.addSPE e) (addSPE e s))
    (rlca : P .rlca (rotateA .rlc s)) (rrca : P .rrca (rotateA .rrc s)) (rla : P .rla (rotateA .rl s))
    (rra : P .rra (rotateA .rr s))
    (rot : ∀ op o, P (rotInstr op o) (rotateOperand op o s)) (bitB : ∀ b o, P (bitInstr b o) (bitTest b o s))
    (resB : ∀ b o, P (resInstr b o) (bitReset b o s)) (setB : ∀ b o, P (setInstr b o) (bitSet b o s))
    (jp : ∀ nn, P (.jpNn nn) (jump nn s)) (jpIf : ∀ cc nn, P (jpInstr cc nn) (jumpIf cc nn s)) (jpHL : P .jpHL (jumpHL s))
    (jr : ∀ e, P (.jrE e) (jumpRelative e s)) (jrIf : ∀ cc e, P (jrInstr cc e) (jumpRelativeIf cc e s))
    (call : ∀ nn, P (.callNn nn) (call nn s)) (callIf : ∀ cc nn, P (callInstr cc nn) (callIf cc nn s))
    (ret : P .ret (returnFromCall s)) (retIf : ∀ cc, P (retInstr cc) (returnIf cc s)) (reti : P .reti (returnFromInterrupt s))
    (rst : ∀ y, P (rstInstr y) (restart y s)) (nop : P .nop (nop s)) (halt : P .halt (haltCpu s)) (stop : P .stop (stopCpu s))
    (di : P .di (disableInterrupts s)) (ei : P .ei (enableInterrupts s)) (cb : P .prefixCB (prefixCB s))
    (undef : ∀ i byte, (i, byte) ∈ undefinedInstrs → P i (undefinedOpcode byte s)) (i : Instr) :
    ∃ t, exec i s = .next t ∧ P i t := by
  cases i with
  | nop => exact ⟨_, rfl, nop⟩
  | ldBCNn nn => exact ⟨_, rfl, ldPair .bc nn⟩
  | ldAtBCA => exact ⟨_, rfl, ldAtBCA⟩
  | incBC => exact ⟨_, rfl, incPair .bc⟩
  | incB => exact ⟨_, rfl, inc (.reg .b)⟩
  | decB => exact ⟨_, rfl, dec (.reg .b)⟩
  | ldBN n => exact ⟨_, rfl, ldN (.reg .b) n⟩
  | rlca => exact ⟨_, rfl, rlca⟩
  | ldAtNnSP nn => exact ⟨_, rfl, ldAtNnSP nn⟩
  | addHLBC => exact ⟨_, rfl, addHL .bc⟩
  | ldAAtBC => exact ⟨_, rfl, ldAAtBC⟩
  | decBC => exact ⟨_, rfl, decPair .bc⟩
  | incC => exact ⟨_, rfl, inc (.reg .c)⟩
  | decC => exact ⟨_, rfl, dec (.reg .c)⟩
  | ldCN n => exact ⟨_, rfl, ldN (.reg .c) n⟩
  | rrca => exact ⟨_, rfl, rrca⟩
  | stop => exact ⟨_, rfl, stop⟩
  | ldDENn nn => exact ⟨_, rfl, ldPair .de nn⟩
  | ldAtDEA => exact ⟨_, rfl, ldAtDEA⟩
  | incDE => exact ⟨_, rfl, incPair .de⟩
  | incD => exact ⟨_, rfl, inc (.reg .d)⟩
  | decD => exact ⟨_, rfl, dec (.reg .d)⟩
  | ldDN n => exact ⟨_, rfl, ldN (.reg .d) n⟩
  | rla => exact ⟨_, rfl, rla⟩
  | jrE e => exact ⟨_, rfl, jr e⟩
  | addHLDE => exact ⟨_, rfl, addHL .de⟩
  | ldAAtDE => exact ⟨_, rfl, ldAAtDE⟩
  | decDE => exact ⟨_, rfl, decPair .de⟩
  | incE => exact ⟨_, rfl, inc (.reg .e)⟩
  | decE => exact ⟨_, rfl, dec (.reg .e)⟩
  | ldEN n => exact ⟨_, rfl, ldN (.reg .e) n⟩
  | rra => exact ⟨_, rfl, rra⟩
  | jrNZE e => exact ⟨_, rfl, jrIf .nz e⟩
  | ldHLNn nn => exact ⟨_, rfl, ldPair .hl nn⟩
  | ldAtHLIncA => exact ⟨_, rfl, ldAtHLIncA⟩
  | incHL => exact ⟨_, rfl, incPair .hl⟩
  | incH => exact ⟨_, rfl, inc (.reg .h)⟩
  | decH => exact ⟨_, rfl, dec (.reg .h)⟩
  | ldHN n => exact ⟨_, rfl, ldN (.reg .h) n⟩
  | daa => exact ⟨_, rfl, daa⟩
  | jrZE e => exact ⟨_, rfl, jrIf .z e⟩
  | addHLHL => exact ⟨_, rfl, addHL .hl⟩
  | ldAAtHLInc => exact ⟨_, rfl, ldAAtHLInc⟩
  | decHL => exact ⟨_, rfl, decPair .hl⟩
  | incL => exact ⟨_, rfl, inc (.reg .l)⟩
  | decL => exact ⟨_, rfl, dec (.reg .l)⟩
  | ldLN n => exact ⟨_, rfl, ldN (.reg .l) n⟩
  | cpl => exact ⟨_, rfl, cpl⟩
  | jrNCE e => exact ⟨_, rfl, jrIf .nc e⟩
  | ldSPNn nn => exact ⟨_, rfl, ldPair .sp nn⟩
  | ldAtHLDecA => exact ⟨_, rfl, ldAtHLDecA⟩
  | incSP => exact ⟨_, rfl, incPair .sp⟩
  | incAtHL => exact ⟨_, rfl, inc .atHL⟩
  | decAtHL => exact ⟨_, rfl, dec .atHL⟩
  | ldAtHLN n => exact ⟨_, rfl, ldN .atHL n⟩
  | scf => exact ⟨_, rfl, scf⟩
  | jrCE e => exact ⟨_, rfl, jrIf .c e⟩
  | addHLSP => exact ⟨_, rfl, addHL .sp⟩
  | ldAAtHLDec => exact ⟨_, rfl, ldAAtHLDec⟩
  | decSP => exact ⟨_, rfl, decPair .sp⟩
  | incA => exact ⟨_, rfl, inc (.reg .a)⟩
  | decA => exact ⟨_, rfl, dec (.reg .a)⟩
  | ldAN n => exact ⟨_, rfl, ldN (.reg .a) n⟩
  | ccf => exact ⟨_, rfl, ccf⟩
  | ldBB => exact ⟨_, rfl, ldRegs .b .b⟩
  | ldBC => exact ⟨_, rfl, ldRegs .b .c⟩
  | ldBD => exact ⟨_, rfl, ldRegs .b .d⟩
  | ldBE => exact ⟨_, rfl, ldRegs .b .e⟩
  | ldBH => exact ⟨_, rfl, ldRegs .b .h⟩
  | ldBL => exact ⟨_, rfl, ldRegs .b .l⟩
  | ldBAtHL => exact ⟨_, rfl, ldLoad .b⟩
  | ldBA => exact ⟨_, rfl, ldRegs .b .a⟩
  | ldCB => exact ⟨_, rfl, ldRegs .c .b⟩
  | ldCC => exact ⟨_, rfl, ldRegs .c .c⟩
  | ldCD => exact ⟨_, rfl, ldRegs .c .d⟩
  | ldCE => exact ⟨_, rfl, ldRegs .c .e⟩
  | ldCH => exact ⟨_, rfl, ldRegs .c .h⟩
  | ldCL => exact ⟨_, rfl, ldRegs .c .l⟩
  | ldCAtHL => exact ⟨_, rfl, ldLoad .c⟩
  | ldCA => exact ⟨_, rfl, ldRegs .c .a⟩
  | ldDB => exact ⟨_, rfl, ldRegs .d .b⟩
  | ldDC => exact ⟨_, rfl, ldRegs .d .c⟩
  | ldDD => exact ⟨_, rfl, ldRegs .d .d⟩
  | ldDE => exact ⟨_, rfl, ldRegs .d .e⟩
  | ldDH => exact ⟨_, rfl, ldRegs .d .h⟩
  | ldDL => exact ⟨_, rfl, ldRegs .d .l⟩
  | ldDAtHL => exact ⟨_, rfl, ldLoad .d⟩
  | ldDA => exact ⟨_, rfl, ldRegs .d .a⟩
  | ldEB => exact ⟨_, rfl, ldRegs .e .b⟩
  | ldEC => exact ⟨_, rfl, ldRegs .e .c⟩
  | ldED => exact ⟨_, rfl, ldRegs .e .d⟩
  | ldEE => exact ⟨_, rfl, ldRegs .e .e⟩
  | ldEH => exact ⟨_, rfl, ldRegs .e .h⟩
  | ldEL => exact ⟨_, rfl, ldRegs .e .l⟩
  | ldEAtHL => exact ⟨_, rfl, ldLoad .e⟩
  | ldEA => exact ⟨_, rfl, ldRegs .e .a⟩
  | ldHB => exact ⟨_, rfl, ldRegs .h .b⟩
  | ldHC => exact ⟨_, rfl, ldRegs .h .c⟩
  | ldHD => exact ⟨_, rfl, ldRegs .h .d⟩
  | ldHE => exact ⟨_, rfl, ldRegs .h .e⟩
  | ldHH => exact ⟨_, rfl, ldRegs .h .h⟩
  | ldHL => exact ⟨_, rfl, ldRegs .h .l⟩
  | ldHAtHL => exact ⟨_, rfl, ldLoad .h⟩
  | ldHA => exact ⟨_, rfl, ldRegs .h .a⟩
  | ldLB => exact ⟨_, rfl, ldRegs .l .b⟩
  | ldLC => exact ⟨_, rfl, ldRegs .l .c⟩
  | ldLD => exact ⟨_, rfl, ldRegs .l .d⟩
  | ldLE => exact ⟨_, rfl, ldRegs .l .e⟩
  | ldLH => exact ⟨_, rfl, ldRegs .l .h⟩
  | ldLL => exact ⟨_, rfl, ldRegs .l .l⟩
  | ldLAtHL => exact ⟨_, rfl, ldLoad .l⟩
  | ldLA => exact ⟨_, rfl, ldRegs .l .a⟩
  | ldAtHLB => exact ⟨_, rfl, ldStore .b⟩
  | ldAtHLC => exact ⟨_, rfl, ldStore .c⟩
  | ldAtHLD => exact ⟨_, rfl, ldStore .d⟩
  | ldAtHLE => exact ⟨_, rfl, ldStore .e⟩
  | ldAtHLH => exact ⟨_, rfl, ldStore .h⟩
  | ldAtHLL => exact ⟨_, rfl, ldStore .l⟩
  | halt => exact ⟨_, rfl, halt⟩
  | ldAtHLA => exact ⟨_, rfl, ldStore .a⟩
  | ldAB => exact ⟨_, rfl, ldRegs .a .b⟩
  | ldAC => exact ⟨_, rfl, ldRegs .a .c⟩
  | ldAD => exact ⟨_, rfl, ldRegs .a .d⟩
  | ldAE => exact ⟨_, rfl, ldRegs .a .e⟩
  | ldAH => exact ⟨_, rfl, ldRegs .a .h⟩
  | ldAL => exact ⟨_, rfl, ldRegs .a .l⟩
  | ldAAtHL => exact ⟨_, rfl, ldLoad .a⟩
  | ldAA => exact ⟨_, rfl, ldRegs .a .a⟩
  | addAB => exact ⟨_, rfl, alu .add (.reg .b)⟩
  | addAC => exact ⟨_, rfl, alu .add (.reg .c)⟩
  | addAD => exact ⟨_, rfl, alu .add (.reg .d)⟩
  | addAE => exact ⟨_, rfl, alu .add (.reg .e)⟩
  | addAH => exact ⟨_, rfl, alu .add (.reg .h)⟩
  | addAL => exact ⟨_, rfl, alu .add (.reg .l)⟩
  | addAAtHL => exact ⟨_, rfl, alu .add .atHL⟩
  | addAA => exact ⟨_, rfl, alu .add (.reg .a)⟩
  | adcAB => exact ⟨_, rfl, alu .adc (.reg .b)⟩
  | adcAC => exact ⟨_, rfl, alu .adc (.reg .c)⟩
  | adcAD => exact ⟨_, rfl, alu .adc (.reg .d)⟩
  | adcAE => exact ⟨_, rfl, alu .adc (.reg .e)⟩
  | adcAH => exact ⟨_, rfl, alu .adc (.reg .h)⟩
  | adcAL => exact ⟨_, rfl, alu .adc (.reg .l)⟩
  | adcAAtHL => exact ⟨_, rfl, alu .adc .atHL⟩
  | adcAA => exact ⟨_, rfl, alu .adc (.reg .a)⟩
  | subB => exact ⟨_, rfl, alu .sub (.reg .b)⟩
  | subC => exact ⟨_, rfl, alu .sub (.reg .c)⟩
  | subD => exact ⟨_, rfl, alu .sub (.reg .d)⟩
  | subE => exact ⟨_, rfl, alu .sub (.reg .e)⟩
  | subH => exact ⟨_, rfl, alu .sub (.reg .h)⟩
  | subL => exact ⟨_, rfl, alu .sub (.reg .l)⟩
  | subAtHL => exact ⟨_, rfl, alu .sub .atHL⟩
  | subA => exact ⟨_, rfl, alu .sub (.reg .a)⟩
  | sbcAB => exact ⟨_, rfl, alu .sbc (.reg .b)⟩
  | sbcAC => exact ⟨_, rfl, alu .sbc (.reg .c)⟩
  | sbcAD => exact ⟨_, rfl, alu .sbc (.reg .d)⟩
  | sbcAE => exact ⟨_, rfl, alu .sbc (.reg .e)⟩
  | sbcAH => exact ⟨_, rfl, alu .sbc (.reg .h)⟩
  | sbcAL => exact ⟨_, rfl, alu .sbc (.reg .l)⟩
  | sbcAAtHL => exact ⟨_, rfl, alu .sbc .atHL⟩
  | sbcAA => exact ⟨_, rfl, alu .sbc (.reg .a)⟩
  | andB => exact ⟨_, rfl, alu .and (.reg .b)⟩
  | andC => exact ⟨_, rfl, alu .and (.reg .c)⟩
  | andD => exact ⟨_, rfl, alu .and (.reg .d)⟩
  | andE => exact ⟨_, rfl, alu .and (.reg .e)⟩
  | andH => exact ⟨_, rfl, alu .and (.reg .h)⟩
  | andL => exact ⟨_, rfl, alu .and (.reg .l)⟩
  | andAtHL => exact ⟨_, rfl, alu .and .atHL⟩
  | andA => exact ⟨_, rfl, alu .and (.reg .a)⟩
  | xorB => exact ⟨_, rfl, alu .xor (.reg .b)⟩
  | xorC => exact ⟨_, rfl, alu .xor (.reg .c)⟩
  | xorD => exact ⟨_, rfl, alu .xor (.reg .d)⟩
  | xorE => exact ⟨_, rfl, alu .xor (.reg .e)⟩
  | xorH => exact ⟨_, rfl, alu .xor (.reg .h)⟩
  | xorL => exact ⟨_, rfl, alu .xor (.reg .l)⟩
  | xorAtHL => exact ⟨_, rfl, alu .xor .atHL⟩
  | xorA => exact ⟨_, rfl, alu .xor (.reg .a)⟩
  | orB => exact ⟨_, rfl, alu .or (.reg .b)⟩
  | orC => exact ⟨_, rfl, alu .or (.reg .c)⟩
  | orD => exact ⟨_, rfl, alu .or (.reg .d)⟩
  | orE => exact ⟨_, rfl, alu .or (.reg .e)⟩
  | orH => exact ⟨_, rfl, alu .or (.reg .h)⟩
  | orL => exact ⟨_, rfl, alu .or (.reg .l)⟩
  | orAtHL => exact ⟨_, rfl, alu .or .atHL⟩
  | orA => exact ⟨_, rfl, alu .or (.reg .a)⟩
  | cpB => exact ⟨_, rfl, alu .cp (.reg .b)⟩
  | cpC => exact ⟨_, rfl, alu .cp (.reg .c)⟩
  | cpD => exact ⟨_, rfl, alu .cp (.reg .d)⟩
  | cpE => exact ⟨_, rfl, alu .cp (.reg .e)⟩
  | cpH => exact ⟨_, rfl, alu .cp (.reg .h)⟩
  | cpL => exact ⟨_, rfl, alu .cp (.reg .l)⟩
  | cpAtHL => exact ⟨_, rfl, alu .cp .atHL⟩
  | cpA => exact ⟨_, rfl, alu .cp (.reg .a)⟩
  | retNZ => exact ⟨_, rfl, retIf .nz⟩
  | popBC => exact ⟨_, rfl, popP .bc⟩
  | jpNZNn nn => exact ⟨_, rfl, jpIf .nz nn⟩
  | jpNn nn => exact ⟨_, rfl, jp nn⟩
  | callNZNn nn => exact ⟨_, rfl, callIf .nz nn⟩
  | pushBC => exact ⟨_, rfl, pushP .bc⟩
  | addAN n => exact ⟨_, rfl, aluN .add n⟩
  | rst00 => exact ⟨_, rfl, rst 0⟩
  | retZ => exact ⟨_, rfl, retIf .z⟩
  | ret => exact ⟨_, rfl, ret⟩
  | jpZNn nn => exact ⟨_, rfl, jpIf .z nn⟩
  | prefixCB => exact ⟨_, rfl, cb⟩
  | callZNn nn => exact ⟨_, rfl, callIf .z nn⟩
  | callNn nn => exact ⟨_, rfl, call nn⟩
  | adcAN n => exact ⟨_, rfl, aluN .adc n⟩
  | rst08 => exact ⟨_, rfl, rst 1⟩
  | retNC => exact ⟨_, rfl, retIf .nc⟩
  | popDE => exact ⟨_, rfl, popP .de⟩
  | jpNCNn nn => exact ⟨_, rfl, jpIf .nc nn⟩
  | undefD3 => exact ⟨_, rfl, undef .undefD3 0xD3 (by simp [undefinedInstrs])⟩
  | callNCNn nn => exact ⟨_, rfl, callIf .nc nn⟩
  | pushDE => exact ⟨_, rfl, pushP .de⟩
  | subN n => exact ⟨_, rfl, aluN .sub n⟩
  | rst10 => exact ⟨_, rfl, rst 2⟩
  | retC => exact ⟨_, rfl, retIf .c⟩
  | reti => exact ⟨_, rfl, reti⟩
  | jpCNn nn => exact ⟨_, rfl, jpIf .c nn⟩
  | undefDB => exact ⟨_, rfl, undef .undefDB 0xDB (by simp [undefinedInstrs])⟩
  | callCNn nn => exact ⟨_, rfl, callIf .c nn⟩
  | undefDD => exact ⟨_, rfl, undef .undefDD 0xDD (by simp [undefinedInstrs])⟩
  | sbcAN n => exact ⟨_, rfl, aluN .sbc n⟩
  | rst18 => exact ⟨_, rfl, rst 3⟩
  | ldhAtNA n => exact ⟨_, rfl, ldhAtNA n⟩
  | popHL => exact ⟨_, rfl, popP .hl⟩
  | ldAtCA => exact ⟨_, rfl, ldAtCA⟩
  | undefE3 => exact ⟨_, rfl, undef .undefE3 0xE3 (by simp [undefinedInstrs])⟩
  | undefE4 => exact ⟨_, rfl, undef .undefE4 0xE4 (by simp [undefinedInstrs])⟩
  | pushHL => exact ⟨_, rfl, pushP .hl⟩
  | andN n => exact ⟨_, rfl, aluN .and n⟩
  | rst20 => exact ⟨_, rfl, rst 4⟩
  | addSPE e => exact ⟨_, rfl, addSPE e⟩
  | jpHL => exact ⟨_, rfl, jpHL⟩
  | ldAtNnA nn => exact ⟨_, rfl, ldAtNnA nn⟩
  | undefEB => exact ⟨_, rfl, undef .undefEB 0xEB (by simp [undefinedInstrs])⟩
  | undefEC => exact ⟨_, rfl, undef .undefEC 0xEC (by simp [undefinedInstrs])⟩
  | undefED => exact ⟨_, rfl, undef .undefED 0xED (by simp [undefinedInstrs])⟩
  | xorN n => exact ⟨_, rfl, aluN .xor n⟩
  | rst28 => exact ⟨_, rfl, rst 5⟩
  | ldhAAtN n => exact ⟨_, rfl, ldhAAtN n⟩
  | popAF => exact ⟨_, rfl, popP .af⟩
  | ldAAtC => exact ⟨_, rfl, ldAAtC⟩
  | di => exact ⟨_, rfl, di⟩
  | undefF4 => exact ⟨_, rfl, undef .undefF4 0xF4 (by simp [undefinedInstrs])⟩
  | pushAF => exact ⟨_, rfl, pushP .af⟩
  | orN n => exact ⟨_, rfl, aluN .or n⟩
  | rst30 => exact ⟨_, rfl, rst 6⟩
  | ldHLSPE e => exact ⟨_, rfl, ldHLSPE e⟩
  | ldSPHL => exact ⟨_, rfl, ldSPHL⟩
  | ldAAtNn nn => exact ⟨_, rfl, ldAAtNn nn⟩
  | ei => exact ⟨_, rfl, ei⟩
  | undefFC => exact ⟨_, rfl, undef .undefFC 0xFC (by simp [undefinedInstrs])⟩
  | undefFD => exact ⟨_, rfl, undef .undefFD 0xFD (by simp [undefinedInstrs])⟩
  | cpN n => exact ⟨_, rfl, aluN .cp n⟩
  | rst38 => exact ⟨_, rfl, rst 7⟩
  | rlcB => exact ⟨_, rfl, rot .rlc (.reg .b)⟩
  | rlcC => exact ⟨_, rfl, rot .rlc (.reg .c)⟩
  | rlcD => exact ⟨_, rfl, rot .rlc (.reg .d)⟩
  | rlcE => exact ⟨_, rfl, rot .rlc (.reg .e)⟩
  | rlcH => exact ⟨_, rfl, rot .rlc (.reg .h)⟩
  | rlcL => exact ⟨_, rfl, rot .rlc (.reg .l)⟩
  | rlcAtHL => exact ⟨_, rfl, rot .rlc .atHL⟩
  | rlcA => exact ⟨_, rfl, rot .rlc (.reg .a)⟩
  | rrcB => exact ⟨_, rfl, rot .rrc (.reg .b)⟩
  | rrcC => exact ⟨_, rfl, rot .rrc (.reg .c)⟩
  | rrcD => exact ⟨_, rfl, rot .rrc (.reg .d)⟩
  | rrcE => exact ⟨_, rfl, rot .rrc (.reg .e)⟩
  | rrcH => exact ⟨_, rfl, rot .rrc (.reg .h)⟩
  | rrcL => exact ⟨_, rfl, rot .rrc (.reg .l)⟩
  | rrcAtHL => exact ⟨_, rfl, rot .rrc .atHL⟩
  | rrcA => exact ⟨_, rfl, rot .rrc (.reg .a)⟩
  | rlB => exact ⟨_, rfl, rot .rl (.reg .b)⟩
  | rlC => exact ⟨_, rfl, rot .rl (.reg .c)⟩
  | rlD => exact ⟨_, rfl, rot .rl (.reg .d)⟩
  | rlE => exact ⟨_, rfl, rot .rl (.reg .e)⟩
  | rlH => exact ⟨_, rfl, rot .rl (.reg .h)⟩
  | rlL => exact ⟨_, rfl, rot .rl (.reg .l)⟩
  | rlAtHL => exact ⟨_, rfl, rot .rl .atHL⟩
  | rlA => exact ⟨_, rfl, rot .rl (.reg .a)⟩
  | rrB => exact ⟨_, rfl, rot .rr (.reg .b)⟩
  | rrC => exact ⟨_, rfl, rot .rr (.reg .c)⟩
  | rrD => exact ⟨_, rfl, rot .rr (.reg .d)⟩
  | rrE => exact ⟨_, rfl, rot .rr (.reg .e)⟩
  | rrH => exact ⟨_, rfl, rot .rr (.reg .h)⟩
  | rrL => exact ⟨_, rfl, rot .rr (.reg .l)⟩
  | rrAtHL => exact ⟨_, rfl, rot .rr .atHL⟩
  | rrA => exact ⟨_, rfl, rot .rr (.reg .a)⟩
  | slaB => exact ⟨_, rfl, rot .sla (.reg .b)⟩
  | slaC => exact ⟨_, rfl, rot .sla (.reg .c)⟩
  | slaD => exact ⟨_, rfl, rot .sla (.reg .d)⟩
  | slaE => exact ⟨_, rfl, rot .sla (.reg .e)⟩
  | slaH => exact ⟨_, rfl, rot .sla (.reg .h)⟩
  | slaL => exact ⟨_, rfl, rot .sla (.reg .l)⟩
  | slaAtHL => exact ⟨_, rfl, rot .sla .atHL⟩
  | slaA => exact ⟨_, rfl, rot .sla (.reg .a)⟩
  | sraB => exact ⟨_, rfl, rot .sra (.reg .b)⟩
  | sraC => exact ⟨_, rfl, rot .sra (.reg .c)⟩
  | sraD => exact ⟨_, rfl, rot .sra (.reg .d)⟩
  | sraE => exact ⟨_, rfl, rot .sra (.reg .e)⟩
  | sraH => exact ⟨_, rfl, rot .sra (.reg .h)⟩
  | sraL => exact ⟨_, rfl, rot .sra (.reg .l)⟩
  | sraAtHL => exact ⟨_, rfl, rot .sra .atHL⟩
  | sraA => exact ⟨_, rfl, rot .sra (.reg .a)⟩
  | swapB => exact ⟨_, rfl, rot .swap (.reg .b)⟩
  | swapC => exact ⟨_, rfl, rot .swap (.reg .c)⟩
  | swapD => exact ⟨_, rfl, rot .swap (.reg .d)⟩
  | swapE => exact ⟨_, rfl, rot .swap (.reg .e)⟩
  | swapH => exact ⟨_, rfl, rot .swap (.reg .h)⟩
  | swapL => exact ⟨_, rfl, rot .swap (.reg .l)⟩
  | swapAtHL => exact ⟨_, rfl, rot .swap .atHL⟩
  | swapA => exact ⟨_, rfl, rot .swap (.reg .a)⟩
  | srlB => exact ⟨_, rfl, rot .srl (.reg .b)⟩
  | srlC => exact ⟨_, rfl, rot .srl (.reg .c)⟩
  | srlD => exact ⟨_, rfl, rot .srl (.reg .d)⟩
  | srlE => exact ⟨_, rfl, rot .srl (.reg .e)⟩
  | srlH => exact ⟨_, rfl, rot .srl (.reg .h)⟩
  | srlL => exact ⟨_, rfl, rot .srl (.reg .l)⟩
  | srlAtHL => exact ⟨_, rfl, rot .srl .atHL⟩
  | srlA => exact ⟨_, rfl, rot .srl (.reg .a)⟩
  | bit0B => exact ⟨_, rfl, bitB 0 (.reg .b)⟩
  | bit0C => exact ⟨_, rfl, bitB 0 (.reg .c)⟩
  | bit0D => exact ⟨_, rfl, bitB 0 (.reg .d)⟩
  | bit0E => exact ⟨_, rfl, bitB 0 (.reg .e)⟩
  | bit0H => exact ⟨_, rfl, bitB 0 (.reg .h)⟩
  | bit0L => exact ⟨_, rfl, bitB 0 (.reg .l)⟩
  | bit0AtHL => exact ⟨_, rfl, bitB 0 .atHL⟩
  | bit0A => exact ⟨_, rfl, bitB 0 (.reg .a)⟩
  | bit1B => exact ⟨_, rfl, bitB 1 (.reg .b)⟩
  | bit1C => exact ⟨_, rfl, bitB 1 (.reg .c)⟩
  | bit1D => exact ⟨_, rfl, bitB 1 (.reg .d)⟩
  | bit1E => exact ⟨_, rfl, bitB 1 (.reg .e)⟩
  | bit1H => exact ⟨_, rfl, bitB 1 (.reg .h)⟩
  | bit1L => exact ⟨_, rfl, bitB 1 (.reg .l)⟩
  | bit1AtHL => exact ⟨_, rfl, bitB 1 .atHL⟩
  | bit1A => exact ⟨_, rfl, bitB 1 (.reg .a)⟩
  | bit2B => exact ⟨_, rfl, bitB 2 (.reg .b)⟩
  | bit2C => exact ⟨_, rfl, bitB 2 (.reg .c)⟩
  | bit2D => exact ⟨_, rfl, bitB 2 (.reg .d)⟩
  | bit2E => exact ⟨_, rfl, bitB 2 (.reg .e)⟩
  | bit2H => exact ⟨_, rfl, bitB 2 (.reg .h)⟩
  | bit2L => exact ⟨_, rfl, bitB 2 (.reg .l)⟩
  | bit2AtHL => exact ⟨_, rfl, bitB 2 .atHL⟩
  | bit2A => exact ⟨_, rfl, bitB 2 (.reg .a)⟩
  | bit3B => exact ⟨_, rfl, bitB 3 (.reg .b)⟩
  | bit3C => exact ⟨_, rfl, bitB 3 (.reg .c)⟩
  | bit3D => exact ⟨_, rfl, bitB 3 (.reg .d)⟩
  | bit3E => exact ⟨_, rfl, bitB 3 (.reg .e)⟩
  | bit3H => exact ⟨_, rfl, bitB 3 (.reg .h)⟩
  | bit3L => exact ⟨_, rfl, bitB 3 (.reg .l)⟩
  | bit3AtHL => exact ⟨_, rfl, bitB 3 .atHL⟩
  | bit3A => exact ⟨_, rfl, bitB 3 (.reg .a)⟩
  | bit4B => exact ⟨_, rfl, bitB 4 (.reg .b)⟩
  | bit4C => exact ⟨_, rfl, bitB 4 (.reg .c)⟩
  | bit4D => exact ⟨_, rfl, bitB 4 (.reg .d)⟩
  | bit4E => exact ⟨_, rfl, bitB 4 (.reg .e)⟩
  | bit4H => exact ⟨_, rfl, bitB 4 (.reg .h)⟩
  | bit4L => exact ⟨_, rfl, bitB 4 (.reg .l)⟩
  | bit4AtHL => exact ⟨_, rfl, bitB 4 .atHL⟩
  | bit4A => exact ⟨_, rfl, bitB 4 (.reg .a)⟩
  | bit5B => exact ⟨_, rfl, bitB 5 (.reg .b)⟩
  | bit5C => exact ⟨_, rfl, bitB 5 (.reg .c)⟩
  | bit5D => exact ⟨_, rfl, bitB 5 (.reg .d)⟩
  | bit5E => exact ⟨_, rfl, bitB 5 (.reg .e)⟩
  | bit5H => exact ⟨_, rfl, bitB 5 (.reg .h)⟩
  | bit5L => exact ⟨_, rfl, bitB 5 (.reg .l)⟩
  | bit5AtHL => exact ⟨_, rfl, bitB 5 .atHL⟩
  | bit5A => exact ⟨_, rfl, bitB 5 (.reg .a)⟩
  | bit6B => exact ⟨_, rfl, bitB 6 (.reg .b)⟩
  | bit6C => exact ⟨_, rfl, bitB 6 (.reg .c)⟩
  | bit6D => exact ⟨_, rfl, bitB 6 (.reg .d)⟩
  | bit6E => exact ⟨_, rfl, bitB 6 (.reg .e)⟩
  | bit6H => exact ⟨_, rfl, bitB 6 (.reg .h)⟩
  | bit6L => exact ⟨_, rfl, bitB 6 (.reg .l)⟩
  | bit6AtHL => exact ⟨_, rfl, bitB 6 .atHL⟩
  | bit6A => exact ⟨_, rfl, bitB 6 (.reg .a)⟩
  | bit7B => exact ⟨_, rfl, bitB 7 (.reg .b)⟩
  | bit7C => exact ⟨_, rfl, bitB 7 (.reg .c)⟩
  | bit7D => exact ⟨_, rfl, bitB 7 (.reg .d)⟩
  | bit7E => exact ⟨_, rfl, bitB 7 (.reg .e)⟩
  | bit7H => exact ⟨_, rfl, bitB 7 (.reg .h)⟩
  | bit7L => exact ⟨_, rfl, bitB 7 (.reg .l)⟩
  | bit7AtHL => exact ⟨_, rfl, bitB 7 .atHL⟩
  | bit7A => exact ⟨_, rfl, bitB 7 (.reg .a)⟩
  | res0B => exact ⟨_, rfl, resB 0 (.reg .b)⟩
  | res0C => exact ⟨_, rfl, resB 0 (.reg .c)⟩
  | res0D => exact ⟨_, rfl, resB 0 (.reg .d)⟩
  | res0E => exact ⟨_, rfl, resB 0 (.reg .e)⟩
  | res0H => exact ⟨_, rfl, resB 0 (.reg .h)⟩
  | res0L => exact ⟨_, rfl, resB 0 (.reg .l)⟩
  | res0AtHL => exact ⟨_, rfl, resB 0 .atHL⟩
  | res0A => exact ⟨_, rfl, resB 0 (.reg .a)⟩
  | res1B => exact ⟨_, rfl, resB 1 (.reg .b)⟩
  | res1C => exact ⟨_, rfl, resB 1 (.reg .c)⟩
  | res1D => exact ⟨_, rfl, resB 1 (.reg .d)⟩
  | res1E => exact ⟨_, rfl, resB 1 (.reg .e)⟩
  | res1H => exact ⟨_, rfl, resB 1 (.reg .h)⟩
  | res1L => exact ⟨_, rfl, resB 1 (.reg .l)⟩
  | res1AtHL => exact ⟨_, rfl, resB 1 .atHL⟩
  | res1A => exact ⟨_, rfl, resB 1 (.reg .a)⟩
  | res2B => exact ⟨_, rfl, resB 2 (.reg .b)⟩
  | res2C => exact ⟨_, rfl, resB 2 (.reg .c)⟩
  | res2D => exact ⟨_, rfl, resB 2 (.reg .d)⟩
  | res2E => exact ⟨_, rfl, resB 2 (.reg .e)⟩
  | res2H => exact ⟨_, rfl, resB 2 (.reg .h)⟩
  | res2L => exact ⟨_, rfl, resB 2 (.reg .l)⟩
  | res2AtHL => exact ⟨_, rfl, resB 2 .atHL⟩
  | res2A => exact ⟨_, rfl, resB 2 (.reg .a)⟩
  | res3B => exact ⟨_, rfl, resB 3 (.reg .b)⟩
  | res3C => exact ⟨_, rfl, resB 3 (.reg .c)⟩
  | res3D => exact ⟨_, rfl, resB 3 (.reg .d)⟩
  | res3E => exact ⟨_, rfl, resB 3 (.reg .e)⟩
  | res3H => exact ⟨_, rfl, resB 3 (.reg .h)⟩
  | res3L => exact ⟨_, rfl, resB 3 (.reg .l)⟩
  | res3AtHL => exact ⟨_, rfl, resB 3 .atHL⟩
  | res3A => exact ⟨_, rfl, resB 3 (.reg .a)⟩
  | res4B => exact ⟨_, rfl, resB 4 (.reg .b)⟩
  | res4C => exact ⟨_, rfl, resB 4 (.reg .c)⟩
  | res4D => exact ⟨_, rfl, resB 4 (.reg .d)⟩
  | res4E => exact ⟨_, rfl, resB 4 (.reg .e)⟩
  | res4H => exact ⟨_, rfl, resB 4 (.reg .h)⟩
  | res4L => exact ⟨_, rfl, resB 4 (.reg .l)⟩
  | res4AtHL => exact ⟨_, rfl, resB 4 .atHL⟩
  | res4A => exact ⟨_, rfl, resB 4 (.reg .a)⟩
  | res5B => exact ⟨_, rfl, resB 5 (.reg .b)⟩
  | res5C => exact ⟨_, rfl, resB 5 (.reg .c)⟩
  | res5D => exact ⟨_, rfl, resB 5 (.reg .d)⟩
  | res5E => exact ⟨_, rfl, resB 5 (.reg .e)⟩
  | res5H => exact ⟨_, rfl, resB 5 (.reg .h)⟩
  | res5L => exact ⟨_, rfl, resB 5 (.reg .l)⟩
  | res5AtHL => exact ⟨_, rfl, resB 5 .atHL⟩
  | res5A => exact ⟨_, rfl, resB 5 (.reg .a)⟩
  | res6B => exact ⟨_, rfl, resB 6 (.reg .b)⟩
  | res6C => exact ⟨_, rfl, resB 6 (.reg .c)⟩
  | res6D => exact ⟨_, rfl, resB 6 (.reg .d)⟩
  | res6E => exact ⟨_, rfl, resB 6 (.reg .e)⟩
  | res6H => exact ⟨_, rfl, resB 6 (.reg .h)⟩
  | res6L => exact ⟨_, rfl, resB 6 (.reg .l)⟩
  | res6AtHL => exact ⟨_, rfl, resB 6 .atHL⟩
  | res6A => exact ⟨_, rfl, resB 6 (.reg .a)⟩
  | res7B => exact ⟨_, rfl, resB 7 (.reg .b)⟩
  | res7C => exact ⟨_, rfl, resB 7 (.reg .c)⟩
  | res7D => exact ⟨_, rfl, resB 7 (.reg .d)⟩
  | res7E => exact ⟨_, rfl, resB 7 (.reg .e)⟩
  | res7H => exact ⟨_, rfl, resB 7 (.reg .h)⟩
  | res7L => exact ⟨_, rfl, resB 7 (.reg .l)⟩
  | res7AtHL => exact ⟨_, rfl, resB 7 .atHL⟩
  | res7A => exact ⟨_, rfl, resB 7 (.reg .a)⟩
  | set0B => exact ⟨_, rfl, setB 0 (.reg .b)⟩
  | set0C => exact ⟨_, rfl, setB 0 (.reg .c)⟩
  | set0D => exact ⟨_, rfl, setB 0 (.reg .d)⟩
  | set0E => exact ⟨_, rfl, setB 0 (.reg .e)⟩
  | set0H => exact ⟨_, rfl, setB 0 (.reg .h)⟩
  | set0L => exact ⟨_, rfl, setB 0 (.reg .l)⟩
  | set0AtHL => exact ⟨_, rfl, setB 0 .atHL⟩
  | set0A => exact ⟨_, rfl, setB 0 (.reg .a)⟩
  | set1B => exact ⟨_, rfl, setB 1 (.reg .b)⟩
  | set1C => exact ⟨_, rfl, setB 1 (.reg .c)⟩
  | set1D => exact ⟨_, rfl, setB 1 (.reg .d)⟩
  | set1E => exact ⟨_, rfl, setB 1 (.reg .e)⟩
  | set1H => exact ⟨_, rfl, setB 1 (.reg .h)⟩
  | set1L => exact ⟨_, rfl, setB 1 (.reg .l)⟩
  | set1AtHL => exact ⟨_, rfl, setB 1 .atHL⟩
  | set1A => exact ⟨_, rfl, setB 1 (.reg .a)⟩
  | set2B => exact ⟨_, rfl, setB 2 (.reg .b)⟩
  | set2C => exact ⟨_, rfl, setB 2 (.reg .c)⟩
  | set2D => exact ⟨_, rfl, setB 2 (.reg .d)⟩
  | set2E => exact ⟨_, rfl, setB 2 (.reg .e)⟩
  | set2H => exact ⟨_, rfl, setB 2 (.reg .h)⟩
  | set2L => exact ⟨_, rfl, setB 2 (.reg .l)⟩
  | set2AtHL => exact ⟨_, rfl, setB 2 .atHL⟩
  | set2A => exact ⟨_, rfl, setB 2 (.reg .a)⟩
  | set3B => exact ⟨_, rfl, setB 3 (.reg .b)⟩
  | set3C => exact ⟨_, rfl, setB 3 (.reg .c)⟩
  | set3D => exact ⟨_, rfl, setB 3 (.reg .d)⟩
  | set3E => exact ⟨_, rfl, setB 3 (.reg .e)⟩
  | set3H => exact ⟨_, rfl, setB 3 (.reg .h)⟩
  | set3L => exact ⟨_, rfl, setB 3 (.reg .l)⟩
  | set3AtHL => exact ⟨_, rfl, setB 3 .atHL⟩
  | set3A => exact ⟨_, rfl, setB 3 (.reg .a)⟩
  | set4B => exact ⟨_, rfl, setB 4 (.reg .b)⟩
  | set4C => exact ⟨_, rfl, setB 4 (.reg .c)⟩
  | set4D => exact ⟨_, rfl, setB 4 (.reg .d)⟩
  | set4E => exact ⟨_, rfl, setB 4 (.reg .e)⟩
  | set4H => exact ⟨_, rfl, setB 4 (.reg .h)⟩
  | set4L => exact ⟨_, rfl, setB 4 (.reg .l)⟩
  | set4AtHL => exact ⟨_, rfl, setB 4 .atHL⟩
  | set4A => exact ⟨_, rfl, setB 4 (.reg .a)⟩
  | set5B => exact ⟨_, rfl, setB 5 (.reg .b)⟩
  | set5C => exact ⟨_, rfl, setB 5 (.reg .c)⟩
  | set5D => exact ⟨_, rfl, setB 5 (.reg .d)⟩
  | set5E => exact ⟨_, rfl, setB 5 (.reg .e)⟩
  | set5H => exact ⟨_, rfl, setB 5 (.reg .h)⟩
  | set5L => exact ⟨_, rfl, setB 5 (.reg .l)⟩
  | set5AtHL => exact ⟨_, rfl, setB 5 .atHL⟩
  | set5A => exact ⟨_, rfl, setB 5 (.reg .a)⟩
  | set6B => exact ⟨_, rfl, setB 6 (.reg .b)⟩
  | set6C => exact ⟨_, rfl, setB 6 (.reg .c)⟩
  | set6D => exact ⟨_, rfl, setB 6 (.reg .d)⟩
  | set6E => exact ⟨_, rfl, setB 6 (.reg .e)⟩
  | set6H => exact ⟨_, rfl, setB 6 (.reg .h)⟩
  | set6L => exact ⟨_, rfl, setB 6 (.reg .l)⟩
  | set6AtHL => exact ⟨_, rfl, setB 6 .atHL⟩
  | set6A => exact ⟨_, rfl, setB 6 (.reg .a)⟩
  | set7B => exact ⟨_, rfl, setB 7 (.reg .b)⟩
  | set7C => exact ⟨_, rfl, setB 7 (.reg .c)⟩
  | set7D => exact ⟨_, rfl, setB 7 (.reg .d)⟩
  | set7E => exact ⟨_, rfl, setB 7 (.reg .e)⟩
  | set7H => exact ⟨_, rfl, setB 7 (.reg .h)⟩
  | set7L => exact ⟨_, rfl, setB 7 (.reg .l)⟩
  | set7AtHL => exact ⟨_, rfl, setB 7 .atHL⟩
  | set7A => exact ⟨_, rfl, setB 7 (.reg .a)⟩

end Sys2Proof.Machine
end

