-- ==== Sys2Proof/Laws/Exec.lean ====
section
/-! SUPPORT. Sys2Proof/Laws/Exec.lean: which shared meaning each constructor runs, one lemma per row of the decoder's tables, so
that a claim about a family need not unfold `exec`. -/

namespace Sys2Proof.Machine

variable (s : State)

theorem exec_ldInstr_reg (dst r : Reg8) : exec (ldInstr (.reg dst) (.reg r)) s = .next (ldRegReg dst r s) := by
  cases dst <;> cases r <;> rfl

theorem exec_ldInstr_load (dst : Reg8) : exec (ldInstr (.reg dst) .atHL) s = .next (ldRegAtHL dst s) := by cases dst <;> rfl

theorem exec_ldInstr_store (r : Reg8) : exec (ldInstr .atHL (.reg r)) s = .next (ldAtHLReg r s) := by cases r <;> rfl

theorem exec_ldNInstr (o : Operand) (n : Byte) : exec (ldNInstr o n) s = .next (ldOperandN o n s) := by
  rcases o with r | _
  · cases r <;> rfl
  · rfl

theorem exec_ldPairInstr (p : Pair) (nn : Word) : exec (ldPairInstr p nn) s = .next (ldPairNn p nn s) := by cases p <;> rfl

theorem exec_aluInstr (op : AluOp) (o : Operand) : exec (aluInstr op o) s = .next (aluOperand op o s) := by
  rcases o with r | _
  · cases op <;> cases r <;> rfl
  · cases op <;> rfl

theorem exec_aluNInstr (op : AluOp) (n : Byte) : exec (aluNInstr op n) s = .next (aluImmediate op n s) := by cases op <;> rfl

theorem exec_incInstr (o : Operand) : exec (incInstr o) s = .next (incOperand o s) := by
  rcases o with r | _
  · cases r <;> rfl
  · rfl

theorem exec_decInstr (o : Operand) : exec (decInstr o) s = .next (decOperand o s) := by
  rcases o with r | _
  · cases r <;> rfl
  · rfl

theorem exec_addHLInstr (p : Pair) : exec (addHLInstr p) s = .next (addHLPair p s) := by cases p <;> rfl

theorem exec_incPairInstr (p : Pair) : exec (incPairInstr p) s = .next (incPair p s) := by cases p <;> rfl

theorem exec_decPairInstr (p : Pair) : exec (decPairInstr p) s = .next (decPair p s) := by cases p <;> rfl

theorem exec_pushInstr (p : StackPair) : exec (pushInstr p) s = .next (pushPair p s) := by cases p <;> rfl

theorem exec_popInstr (p : StackPair) : exec (popInstr p) s = .next (popPair p s) := by cases p <;> rfl

theorem exec_jrInstr (cc : Cond) (e : Byte) : exec (jrInstr cc e) s = .next (jumpRelativeIf cc e s) := by cases cc <;> rfl

theorem exec_jpInstr (cc : Cond) (nn : Word) : exec (jpInstr cc nn) s = .next (jumpIf cc nn s) := by cases cc <;> rfl

theorem exec_callInstr (cc : Cond) (nn : Word) : exec (callInstr cc nn) s = .next (callIf cc nn s) := by cases cc <;> rfl

theorem exec_retInstr (cc : Cond) : exec (retInstr cc) s = .next (returnIf cc s) := by cases cc <;> rfl

theorem exec_rstInstr (y : Fin 8) : exec (rstInstr y) s = .next (restart y s) := by
  match y with
  | 0 => rfl
  | 1 => rfl
  | 2 => rfl
  | 3 => rfl
  | 4 => rfl
  | 5 => rfl
  | 6 => rfl
  | 7 => rfl

theorem exec_rotInstr (op : RotOp) (o : Operand) : exec (rotInstr op o) s = .next (rotateOperand op o s) := by
  rcases o with r | _
  · cases op <;> cases r <;> rfl
  · cases op <;> rfl

theorem exec_bitInstr (b : Fin 8) (o : Operand) : exec (bitInstr b o) s = .next (bitTest b o s) := by
  rcases o with r | _
  · match b with
    | 0 | 1 | 2 | 3 | 4 | 5 | 6 | 7 => cases r <;> rfl
  · match b with
    | 0 | 1 | 2 | 3 | 4 | 5 | 6 | 7 => rfl

theorem exec_resInstr (b : Fin 8) (o : Operand) : exec (resInstr b o) s = .next (bitReset b o s) := by
  rcases o with r | _
  · match b with
    | 0 | 1 | 2 | 3 | 4 | 5 | 6 | 7 => cases r <;> rfl
  · match b with
    | 0 | 1 | 2 | 3 | 4 | 5 | 6 | 7 => rfl

theorem exec_setInstr (b : Fin 8) (o : Operand) : exec (setInstr b o) s = .next (bitSet b o s) := by
  rcases o with r | _
  · match b with
    | 0 | 1 | 2 | 3 | 4 | 5 | 6 | 7 => cases r <;> rfl
  · match b with
    | 0 | 1 | 2 | 3 | 4 | 5 | 6 | 7 => rfl

/-- Running the bare prefix is fetching a second byte and running the instruction it selects (R266). -/
theorem exec_prefixCB : exec .prefixCB s = exec (decodeCB (fetchedByte s)) (afterFetch s) := by
  show Host.Outcome.next (prefixCB s) = _
  unfold prefixCB cbOperation decodeCB
  match xField (fetchedByte s) with
  | 0 => exact (exec_rotInstr _ _ _).symm
  | 1 => exact (exec_bitInstr _ _ _).symm
  | 2 => exact (exec_resInstr _ _ _).symm
  | _ + 3 => exact (exec_setInstr _ _ _).symm

/-- Every meaning answers a next state: no instruction stops. -/
theorem exec_next (i : Instr) : ∃ t, exec i s = .next t := by cases i <;> exact ⟨_, rfl⟩

end Sys2Proof.Machine
end

