-- ==== Sys2Proof/Laws/Frame.lean ====
section
/-! SUPPORT. Sys2Proof/Laws/Frame.lean: what time and a bus write leave of the memory that the bus shows (20_memory.md R62,
R74). -/

namespace Sys2Proof.Machine

/-! ### Which addresses show a device -/

/-- The address of a register of `0xFF00` to `0xFF0F`. -/
def IoReg.addr : IoReg → Word
  | .joyp => 0xFF00
  | .div => 0xFF04
  | .tima => 0xFF05
  | .tma => 0xFF06
  | .tac => 0xFF07
  | .irq => 0xFF0F

/-- The address of a PPU register. -/
def PpuReg.addr : PpuReg → Word
  | .lcdc => 0xFF40
  | .stat => 0xFF41
  | .scy => 0xFF42
  | .scx => 0xFF43
  | .ly => 0xFF44
  | .lyc => 0xFF45
  | .bgp => 0xFF47
  | .obp0 => 0xFF48
  | .obp1 => 0xFF49
  | .wy => 0xFF4A
  | .wx => 0xFF4B

/-- The address of a device that stands at one address alone. -/
def Device.addr? : Device → Option Word
  | .io r => some r.addr
  | .dma => some 0xFF46
  | .ppu r => some r.addr
  | .bootUnmap => some 0xFF50
  | .ie => some 0xFFFF
  | .bootRom _ => none
  | .cartRom _ => none
  | .vram _ => none
  | .cartRam _ => none
  | .wram _ => none
  | .oam _ => none
  | .hram _ => none
  | .unmapped => none

/-- Behind `0xFF00 + n` stands a register whose address that is, or nothing. -/
theorem pageDevice_addr (n : Fin 0x80) :
    pageDevice n = .unmapped ∨ ((pageDevice n).addr?.map BitVec.toNat) = some (0xFF00 + n.val) := by
  revert n
  decide

/-- The device table, one row at a time. -/
theorem deviceAt_cases (b : Bool) (a : Word) :
    (a.toNat < 0x100 ∧ b = true ∧ deviceAt b a = .bootRom a.toNat) ∨
    (a.toNat < 0x8000 ∧ (0x100 ≤ a.toNat ∨ b = false) ∧ deviceAt b a = .cartRom a.toNat) ∨
    (0x8000 ≤ a.toNat ∧ a.toNat < 0xA000 ∧ deviceAt b a = .vram (a.toNat - 0x8000)) ∨
    (0xA000 ≤ a.toNat ∧ a.toNat < 0xC000 ∧ deviceAt b a = .cartRam (a.toNat - 0xA000)) ∨
    (0xC000 ≤ a.toNat ∧ a.toNat < 0xFE00 ∧ deviceAt b a = .wram (a.toNat % 0x2000)) ∨
    (0xFE00 ≤ a.toNat ∧ a.toNat < 0xFEA0 ∧ deviceAt b a = .oam (a.toNat - 0xFE00)) ∨
    (0xFF80 ≤ a.toNat ∧ a.toNat < 0xFFFF ∧ deviceAt b a = .hram (a.toNat - 0xFF80)) ∨
    deviceAt b a = .unmapped ∨ (deviceAt b a).addr? = some a := by
  have hlt := a.isLt
  by_cases h0 : a.toNat < 0x100 ∧ b = true
  · exact .inl ⟨h0.1, h0.2, by rw [h0.2]; exact deviceAt_bootRom a h0.1⟩
  have h0' : a.toNat < 0x8000 → 0x100 ≤ a.toNat ∨ b = false := by
    intro _
    cases b
    · exact .inr rfl
    · left; simp at h0; exact h0
  right
  by_cases h1 : a.toNat < 0x8000
  · exact .inl ⟨h1, h0' h1, deviceAt_rom b a h1 (h0' h1)⟩
  right
  by_cases h2 : a.toNat < 0xA000
  · exact .inl ⟨by omega, h2, deviceAt_vram b a (by omega) h2⟩
  right
  by_cases h3 : a.toNat < 0xC000
  · exact .inl ⟨by omega, h3, deviceAt_cartRam b a (by omega) h3⟩
  right
  by_cases h4 : a.toNat < 0xFE00
  · exact .inl ⟨by omega, h4, deviceAt_wram b a (by omega) h4⟩
  right
  by_cases h5 : a.toNat < 0xFEA0
  · exact .inl ⟨by omega, h5, deviceAt_oam b a (by omega) h5⟩
  right
  by_cases h6 : a.toNat < 0xFF00
  · exact .inr (.inl (deviceAt_gap b a (by omega) h6))
  by_cases h7 : a.toNat < 0xFF80
  · right
    rw [deviceAt_page b a (by omega) h7]
    rcases pageDevice_addr ⟨a.toNat - 0xFF00, by omega⟩ with h | h
    · exact .inl h
    · right
      dsimp only at h
      cases hw : (pageDevice (a.toNat - 0xFF00)).addr? with
      | none => rw [hw] at h; simp at h
      | some w =>
        rw [hw] at h
        simp only [Option.map_some, Option.some.injEq] at h
        exact congrArg some (BitVec.eq_of_toNat_eq (by omega))
  by_cases h8 : a.toNat < 0xFFFF
  · exact .inl ⟨by omega, h8, deviceAt_hram b a (by omega) h8⟩
  right; right
  have : a = 0xFFFF := BitVec.eq_of_toNat_eq (by show a.toNat = 65535; omega)
  subst this
  rw [deviceAt_ie]
  rfl

/-- What a device tells of the address it stands at. -/
def Device.fits (dev : Device) (b : Bool) (a : Word) : Prop :=
  match dev with
  | .bootRom k => k = a.toNat ∧ a.toNat < 0x100 ∧ b = true
  | .cartRom k => k = a.toNat ∧ a.toNat < 0x8000 ∧ (0x100 ≤ a.toNat ∨ b = false)
  | .vram k => k = a.toNat - 0x8000 ∧ 0x8000 ≤ a.toNat ∧ a.toNat < 0xA000
  | .cartRam k => k = a.toNat - 0xA000 ∧ 0xA000 ≤ a.toNat ∧ a.toNat < 0xC000
  | .wram k => k = a.toNat % 0x2000 ∧ 0xC000 ≤ a.toNat ∧ a.toNat < 0xFE00
  | .oam k => k = a.toNat - 0xFE00 ∧ 0xFE00 ≤ a.toNat ∧ a.toNat < 0xFEA0
  | .hram k => k = a.toNat - 0xFF80 ∧ 0xFF80 ≤ a.toNat ∧ a.toNat < 0xFFFF
  | .io r => a = r.addr
  | .dma => a = 0xFF46
  | .ppu r => a = r.addr
  | .bootUnmap => a = 0xFF50
  | .ie => a = 0xFFFF
  | .unmapped => True

/-- The device at an address tells where the address lies. -/
theorem deviceAt_fits (b : Bool) (a : Word) : (deviceAt b a).fits b a := by
  rcases deviceAt_cases b a with h | h | h | h | h | h | h | h | h
  · rw [h.2.2]; exact ⟨rfl, h.1, h.2.1⟩
  · rw [h.2.2]; exact ⟨rfl, h.1, h.2.1⟩
  · rw [h.2.2]; exact ⟨rfl, h.1, h.2.1⟩
  · rw [h.2.2]; exact ⟨rfl, h.1, h.2.1⟩
  · rw [h.2.2]; exact ⟨rfl, h.1, h.2.1⟩
  · rw [h.2.2]; exact ⟨rfl, h.1, h.2.1⟩
  · rw [h.2.2]; exact ⟨rfl, h.1, h.2.1⟩
  · rw [h]; trivial
  · generalize deviceAt b a = dev at h
    cases dev <;> first | exact (Option.some.inj h).symm | exact absurd h (by simp [Device.addr?])

theorem fits_of_deviceAt {b : Bool} {a : Word} {dev : Device} (h : deviceAt b a = dev) : dev.fits b a :=
  h ▸ deviceAt_fits b a

/-! ### Time -/

/-- A tick keeps every PPU register that software writes. -/
theorem ppuEvent_registers (m : Mems) (p : Ppu) :
    (ppuEvent m p).lcdc = p.lcdc ∧ (ppuEvent m p).statEnables = p.statEnables ∧ (ppuEvent m p).scy = p.scy ∧
    (ppuEvent m p).scx = p.scx ∧ (ppuEvent m p).ly = p.ly ∧ (ppuEvent m p).lyc = p.lyc ∧ (ppuEvent m p).wy = p.wy ∧
    (ppuEvent m p).wx = p.wx ∧ (ppuEvent m p).bgp = p.bgp ∧ (ppuEvent m p).obp0 = p.obp0 ∧
    (ppuEvent m p).obp1 = p.obp1 ∧ (ppuEvent m p).ppuClock = p.ppuClock := by
  unfold ppuEvent
  dsimp only
  (repeat' split) <;> simp [lineStart, drawTick]

theorem ppuRead_tick (s : State) (r : PpuReg) (h : r ≠ .stat) (h' : r ≠ .ly) :
    ppuRead (tick s).ppu r = ppuRead s.ppu r := by
  rw [tick_ppu]
  have e := ppuEvent_registers (tick s).mems s.ppu
  generalize ppuEvent (tick s).mems s.ppu = p at e
  unfold ppuAdvance
  cases r <;> first | exact absurd rfl h | exact absurd rfl h' | (split <;> simp [ppuRead, e])

/-- An address that time does not change reads the same after a tick (R74). -/
theorem busRead_tick {b : Word} (h : changesWithTime b = false) (s : State) : busRead (tick s) b = busRead s b := by
  unfold busRead
  rw [tick_bootMapped]
  have fits := deviceAt_fits s.bootMapped b
  generalize deviceAt s.bootMapped b = dev at fits
  have notOam : ¬(0xFE00 ≤ b.toNat ∧ b.toNat < 0xFEA0) := by
    intro hh
    simp [changesWithTime, hh] at h
  cases dev with
  | oam k => exact absurd ⟨fits.2.1, fits.2.2⟩ notOam
  | io r =>
    have fits : b = r.addr := fits
    subst fits
    cases r
    · simp [deviceRead, ioRead]
    · exact absurd h (by decide)
    · exact absurd h (by decide)
    · simp [deviceRead, ioRead]
    · simp [deviceRead, ioRead]
    · exact absurd h (by decide)
  | ppu r =>
    have fits : b = r.addr := fits
    subst fits
    refine ppuRead_tick s r ?_ ?_ <;> (rintro rfl; exact absurd h (by decide))
  | dma =>
    simp only [deviceRead, tick_dma]
    split <;> rfl
  | cartRom a => simp [deviceRead, cartRomRead, cartRomOffset]
  | cartRam k =>
    have e : cartRamEnabled (tick s) = cartRamEnabled s := by unfold cartRamEnabled; rw [tick_params, tick_mbc]
    simp only [deviceRead, e, tick_cartRam]
  | _ => simp [deviceRead]

theorem busRead_cycle {b : Word} (h : changesWithTime b = false) (s : State) : busRead (cycle s) b = busRead s b := by
  simp only [cycle, busRead_tick h]

theorem busRead_cycles {b : Word} (h : changesWithTime b = false) (n : Nat) (s : State) :
    busRead (cycles n s) b = busRead s b := by
  induction n generalizing s with
  | zero => rfl
  | succ n ih => rw [cycles, ih, busRead_cycle h]

/-! ### A bus write -/

/-- The memories that a frame needs in canonical form. -/
def Mems.Canonical (m : Mems) : Prop :=
  Memory.wf .vram m.vram = true ∧ Memory.wf .wram m.wram = true ∧ Memory.wf .hram m.hram = true ∧
    Memory.wf .cartRam m.cartRam = true

theorem Mems.Ok.canonical {m : Mems} (h : m.Ok) : m.Canonical := ⟨h.1, h.2.2.1, h.2.2.2.1, h.2.2.2.2⟩

/-- A bus write keeps the memories in canonical form. -/
theorem busWrite_canonical {s : State} (h : s.mems.Canonical) (a : Word) (v : Byte) : (busWrite s a v).mems.Canonical := by
  unfold busWrite
  have fits := deviceAt_fits s.bootMapped a
  generalize deviceAt s.bootMapped a = dev at fits
  obtain ⟨h1, h2, h3, h4⟩ := h
  cases dev with
  | vram k => exact ⟨Memory.wf_write h1 (by have := fits.1; have := fits.2; simp only [Region.size]; omega), h2, h3, h4⟩
  | wram k => exact ⟨h1, Memory.wf_write h2 (by have := fits.1; simp only [Region.size]; omega), h3, h4⟩
  | hram k => exact ⟨h1, h2, Memory.wf_write h3 (by have := fits.1; have := fits.2; simp only [Region.size]; omega), h4⟩
  | cartRam k =>
    simp only [deviceWrite]
    split
    · exact ⟨h1, h2, h3, Memory.wf_write h4 (by have := fits.1; have := fits.2; simp only [Region.size]; omega)⟩
    · exact ⟨h1, h2, h3, h4⟩
  | cartRom k =>
    simp only [deviceWrite, cartRomWrite]
    (repeat' split) <;> exact ⟨h1, h2, h3, h4⟩
  | io r => cases r <;> exact ⟨h1, h2, h3, h4⟩
  | bootUnmap => simp only [deviceWrite]; split <;> exact ⟨h1, h2, h3, h4⟩
  | _ => exact ⟨h1, h2, h3, h4⟩

theorem tick_canonical {s : State} (h : s.mems.Canonical) : (tick s).mems.Canonical := by
  simpa [Mems.Canonical] using h

theorem cycle_canonical {s : State} (h : s.mems.Canonical) : (cycle s).mems.Canonical := by
  simpa [Mems.Canonical] using h

theorem cycles_canonical {s : State} (n : Nat) (h : s.mems.Canonical) : (cycles n s).mems.Canonical := by
  induction n generalizing s with
  | zero => exact h
  | succ n ih => exact ih (cycle_canonical h)

theorem memWrite_canonical {s : State} (h : s.mems.Canonical) (a : Word) (v : Byte) : (memWrite a v s).mems.Canonical :=
  cycle_canonical (busWrite_canonical h a v)

/-- A store that does not unmap the boot ROM, or any store where the boot ROM does not lie, leaves the device of an
address. -/
theorem deviceAt_busWrite {s : State} {a b : Word} (v : Byte) (h : ¬(a = 0xFF50 ∧ b.toNat < 0x100)) :
    deviceAt (busWrite s a v).bootMapped b = deviceAt s.bootMapped b := by
  by_cases hb : b.toNat < 0x100
  · have ha : a ≠ 0xFF50 := fun e => h ⟨e, hb⟩
    have : (busWrite s a v).bootMapped = s.bootMapped := by
      unfold busWrite
      have fits := deviceAt_fits s.bootMapped a
      generalize deviceAt s.bootMapped a = dev at fits
      cases dev with
      | bootUnmap => exact absurd fits ha
      | cartRom k => simp only [deviceWrite, cartRomWrite]; (repeat' split) <;> rfl
      | cartRam k => simp only [deviceWrite]; split <;> rfl
      | io r => cases r <;> rfl
      | _ => rfl
    rw [this]
  · unfold deviceAt
    simp [hb]

/-- A store leaves every byte it does not reach (R62). -/
theorem busRead_busWrite {s : State} (hm : s.mems.Canonical) {a b : Word} (v : Byte) (ht : changesWithTime b = false)
    (h : storeReaches s.params.cartKind a b = false) : busRead (busWrite s a v) b = busRead s b := by
  simp only [storeReaches, Bool.or_eq_false_iff, Bool.and_eq_false_iff, beq_eq_false_iff_ne, decide_eq_false_iff_not] at h
  obtain ⟨⟨⟨⟨hne, hw⟩, hram⟩, hbank⟩, hboot⟩ := h
  have hdev : deviceAt (busWrite s a v).bootMapped b = deviceAt s.bootMapped b :=
    deviceAt_busWrite v (by rintro ⟨e, hb⟩; exact hboot.elim (fun hh => hh e) (fun hh => hh hb))
  have hnat : b.toNat ≠ a.toNat := fun e => hne (BitVec.eq_of_toNat_eq e.symm)
  unfold busRead
  rw [hdev]
  unfold busWrite
  have fa := deviceAt_fits s.bootMapped a
  have fb := deviceAt_fits s.bootMapped b
  generalize deviceAt s.bootMapped a = da at fa
  generalize deviceAt s.bootMapped b = db at fb
  obtain ⟨h1, h2, h3, h4⟩ := hm
  cases da with
  | bootRom k => rfl
  | unmapped => rfl
  | vram k =>
    cases db with
    | vram j =>
      simp only [deviceRead, deviceWrite, Memory.read_write h1]
      rw [if_neg (by have := fa.1; have := fa.2; have := fb.1; have := fb.2; omega)]
    | _ => rfl
  | wram k =>
    cases db with
    | wram j =>
      simp only [deviceRead, deviceWrite, Memory.read_write h2]
      rw [if_neg]
      intro e
      rcases hw with (hw | hw) | hw
      · simp [inWram] at hw; have := fa.2; omega
      · simp [inWram] at hw; have := fb.2; omega
      · apply hw
        have := fa.1; have := fb.1; omega
    | _ => rfl
  | hram k =>
    cases db with
    | hram j =>
      simp only [deviceRead, deviceWrite, Memory.read_write h3]
      rw [if_neg (by have := fa.1; have := fa.2; have := fb.1; have := fb.2; omega)]
    | _ => rfl
  | oam k =>
    cases db with
    | oam j =>
      exfalso
      have := fb.2
      simp [changesWithTime, this] at ht
    | _ => rfl
  | cartRam k =>
    by_cases hen : cartRamEnabled s = true
    · cases db with
      | cartRam j =>
        have e : cartRamEnabled (deviceWrite s (.cartRam k) v) = true := by
          simp only [deviceWrite, hen, if_true]; exact hen
        simp only [deviceRead, e, hen, if_true]
        simp only [deviceWrite, hen, if_true, Memory.read_write h4]
        rw [if_neg (by have := fa.1; have := fa.2; have := fb.1; have := fb.2; omega)]
      | _ => simp only [deviceWrite, hen, if_true]; rfl
    · simp only [deviceWrite, hen]; rfl
  | cartRom k =>
    simp only [deviceWrite, cartRomWrite]
    cases hk : s.params.cartKind with
    | rom0 => rfl
    | mbc1 =>
      dsimp only
      have fa1 : k = a.toNat := fa.1
      by_cases hlow : k < 0x2000
      · rw [if_pos hlow]
        cases db with
        | cartRam j =>
          exfalso
          rw [hk] at hram
          have := fb.2
          rcases hram with ((hh | hh) | hh) | hh
          · exact hh rfl
          all_goals omega
        | _ => rfl
      · rw [if_neg hlow]
        by_cases hmid : k < 0x4000
        · rw [if_pos hmid]
          cases db with
          | cartRom j =>
            simp only [deviceRead, cartRomRead, cartRomOffset, hk]
            by_cases hj : j < 0x4000
            · simp [hj]
            · exfalso
              rw [hk] at hbank
              have := fb.1; have := fb.2
              rcases hbank with (((hh | hh) | hh) | hh) | hh
              · exact hh rfl
              all_goals omega
          | _ => rfl
        · rw [if_neg hmid]
  | io r =>
    have fa : a = r.addr := fa
    cases db with
    | io q =>
      have fb : b = q.addr := fb
      subst fa; subst fb
      cases r <;> cases q <;> first | exact absurd rfl hne | rfl
    | _ => cases r <;> rfl
  | ppu r =>
    have fa : a = r.addr := fa
    cases db with
    | ppu q =>
      have fb : b = q.addr := fb
      subst fa; subst fb
      cases r <;> cases q <;> first | exact absurd rfl hne | rfl
    | _ => rfl
  | dma =>
    cases db with
    | dma => exact absurd (fa.trans fb.symm) hne
    | _ => rfl
  | bootUnmap =>
    simp only [deviceWrite]
    split
    · rfl
    · cases db <;> rfl
  | ie =>
    cases db with
    | ie => exact absurd (fa.trans fb.symm) hne
    | _ => rfl

/-- A CPU write leaves every byte it does not reach and time does not change. -/
theorem busRead_memWrite {s : State} (hm : s.mems.Canonical) {a b : Word} (v : Byte) (ht : changesWithTime b = false)
    (h : storeReaches s.params.cartKind a b = false) : busRead (memWrite a v s) b = busRead s b := by
  rw [memWrite, busRead_cycle ht, busRead_busWrite hm v ht h]

/-- The bus reads the agents alone. -/
theorem busRead_agentsOf {u t : State} (h : AgentsOf u t) (b : Word) : busRead t b = busRead u b := by
  rw [h]
  rfl

/-- The frame of an instruction that stores nothing. -/
theorem keepsMemory_of_cycles {n : Nat} {s t : State} (h : AgentsOf (cycles n s) t) : KeepsMemory [] s t :=
  fun _ b hb _ => by rw [busRead_agentsOf h, busRead_cycles hb]

/-- The frame of an instruction that stores one byte. -/
theorem keepsMemory_of_memWrite {n : Nat} {a : Word} {v : Byte} {s t : State} (h : AgentsOf (memWrite a v (cycles n s)) t) :
    KeepsMemory [a] s t :=
  fun hm b hb hs => by
    rw [busRead_agentsOf h, busRead_memWrite (cycles_canonical n hm.canonical) v hb, busRead_cycles hb]
    simpa using hs a (List.mem_singleton.mpr rfl)

/-- The frame of an instruction that stores two bytes. -/
theorem keepsMemory_of_memWrite_memWrite {n : Nat} {a a' : Word} {v v' : Byte} {s t : State}
    (h : AgentsOf (memWrite a' v' (memWrite a v (cycles n s))) t) : KeepsMemory [a, a'] s t :=
  fun hm b hb hs => by
    rw [busRead_agentsOf h, busRead_memWrite (memWrite_canonical (cycles_canonical n hm.canonical) a v) v' hb,
      busRead_memWrite (cycles_canonical n hm.canonical) v hb, busRead_cycles hb]
    · simpa using hs a (by simp)
    · simpa using hs a' (by simp)

end Sys2Proof.Machine
end

