-- ==== Sys2Proof/Laws/Effect.lean ====
section
/-! SUPPORT. Sys2Proof/Laws/Effect.lean: the frames of Safety.lean from the form a meaning computes: which updates of the CPU's
own state a claim about registers, flags or `PC` comes from. -/

namespace Sys2Proof.Machine

variable {s u t : State}

/-! ### The other agents -/

theorem agentsOf_refl (s : State) : AgentsOf s s := rfl

/-- Updates of the CPU's own registers and control state leave the other agents. -/
theorem agentsOf_withCpu (r : Regs) (c : Ctl) (u : State) : AgentsOf u (withCpu r c u) := rfl

theorem agentsOf_setPc (v : Word) (h : AgentsOf u t) : AgentsOf u (setPc v t) := by rw [h]; rfl
theorem agentsOf_setSp (v : Word) (h : AgentsOf u t) : AgentsOf u (setSp v t) := by rw [h]; rfl
theorem agentsOf_setIme (v : Bool) (h : AgentsOf u t) : AgentsOf u (setIme v t) := by rw [h]; rfl
theorem agentsOf_setHalt (v : Bool) (h : AgentsOf u t) : AgentsOf u (setHalt v t) := by rw [h]; rfl
theorem agentsOf_setFlags (fl : Flags) (h : AgentsOf u t) : AgentsOf u (setFlags fl t) := by rw [h]; rfl
theorem agentsOf_setReg (r : Reg8) (v : Byte) (h : AgentsOf u t) : AgentsOf u (setReg r v t) := by
  rw [h]; cases r <;> rfl
theorem agentsOf_setPair (p : Pair) (v : Word) (h : AgentsOf u t) : AgentsOf u (setPair p v t) := by
  rw [h]; cases p <;> rfl
theorem agentsOf_setStackPair (p : StackPair) (v : Word) (h : AgentsOf u t) : AgentsOf u (setStackPair p v t) := by
  rw [h]; cases p <;> rfl
theorem agentsOf_setAF (r : Byte × Flags) (h : AgentsOf u t) : AgentsOf u (setAF r t) :=
  agentsOf_setFlags _ (agentsOf_setReg _ _ h)

/-! ### Flags -/

theorem flagsOf_putFlags (fl : Flags) (f : Byte) : flagsOf (putFlags fl f) = fl := by
  obtain ⟨z, n, h, c⟩ := fl
  simp only [flagsOf, putFlags, BitVec.getLsbD_append, BitVec.getLsbD_extractLsb', BitVec.getLsbD_ofBool]
  simp

theorem putFlags_low (fl : Flags) (f : Byte) : putFlags fl f &&& 0x0F = f &&& 0x0F := by
  apply BitVec.eq_of_getLsbD_eq
  intro i hi
  simp only [putFlags, BitVec.getLsbD_and, BitVec.getLsbD_append, BitVec.getLsbD_extractLsb']
  have : i < 4 ∨ i = 4 ∨ i = 5 ∨ i = 6 ∨ i = 7 := by omega
  rcases this with h | rfl | rfl | rfl | rfl
  · simp [h]
  all_goals simp

@[simp] theorem setFlags_flags (fl : Flags) (s : State) : (setFlags fl s).flags = fl := flagsOf_putFlags fl s.regs.f

/-- Writing the flags the register holds leaves it. -/
theorem putFlags_flagsOf (f : Byte) : putFlags (flagsOf f) f = f := by
  apply BitVec.eq_of_getLsbD_eq
  intro i hi
  simp only [flagsOf, putFlags, BitVec.getLsbD_append, BitVec.getLsbD_extractLsb', BitVec.getLsbD_ofBool]
  have : i < 4 ∨ i = 4 ∨ i = 5 ∨ i = 6 ∨ i = 7 := by omega
  rcases this with h | rfl | rfl | rfl | rfl
  · simp [h]
  all_goals simp

/-! ### The shapes of a result -/

/-- A meaning that leaves `A` and the flags, `k` machine cycles later. -/
theorem accResult_of {i : Instr} {k : Nat} {r : Byte × Flags} (h : exec i s = .next (setAF r (cycles k s))) :
    AccResult i s k r.1 r.2 := by
  have ag : AgentsOf (cycles k s) (setAF r (cycles k s)) := agentsOf_setAF r (agentsOf_refl _)
  refine ⟨_, h, by simp [setAF, setReg], ⟨?_, ⟨?_, ?_⟩, ?_, ?_, ?_⟩, ag, keepsMemory_of_cycles ag⟩
  · intro q hq
    have hq : q ≠ .a := by simpa using hq
    cases q <;> first | exact absurd rfl hq | simp [setAF, setReg, getReg]
  · simp [setAF]
  · simpa [setAF, setReg] using putFlags_low r.2 s.regs.f
  · simp [KeepsSp, setAF, setReg]
  · simp [KeepsPc, setAF, setReg]
  · simp [KeepsCtl, setAF, setReg]

/-- A meaning that leaves one register of table `r` and the flags in no further time. -/
theorem replaced_reg {i : Instr} {r : Reg8} {v : Byte} {fl : Flags} (h : exec i s = .next (setReg r v (setFlags fl s))) :
    ∃ t, exec i s = .next t ∧ getReg r t = v ∧ OnlyRegsAndFlags [r] fl s t ∧ AgentsOf s t ∧ KeepsMemory [] s t := by
  have ag : AgentsOf s (setReg r v (setFlags fl s)) := agentsOf_setReg _ _ (agentsOf_setFlags _ (agentsOf_refl _))
  refine ⟨_, h, by simp, ⟨?_, ⟨?_, ?_⟩, ?_, ?_, ?_⟩, ag, keepsMemory_of_cycles (n := 0) ag⟩
  · intro q hq
    have hq : q ≠ r := by simpa using hq
    cases q <;> cases r <;> first | exact absurd rfl hq | rfl
  · cases r <;> exact flagsOf_putFlags fl s.regs.f
  · cases r <;> exact putFlags_low fl s.regs.f
  · cases r <;> rfl
  · cases r <;> rfl
  · cases r <;> rfl

/-- A meaning that reads the byte at an address, writes one back a machine cycle later, and leaves the flags. -/
theorem replaced_atHL {i : Instr} {v : Byte} {fl : Flags}
    (h : exec i s = .next (memWrite (hlPair s) v (setFlags fl (cycle s)))) :
    ∃ t, exec i s = .next t ∧ OnlyRegsAndFlags [] fl s t ∧ AgentsOf (memWrite (hlPair s) v (cycle s)) t ∧
      KeepsMemory [hlPair s] s t := by
  rw [memWrite_setFlags] at h
  have ag : AgentsOf (memWrite (hlPair s) v (cycle s)) (setFlags fl (memWrite (hlPair s) v (cycle s))) :=
    agentsOf_setFlags _ (agentsOf_refl _)
  refine ⟨_, h, ⟨?_, ⟨?_, ?_⟩, ?_, ?_, ?_⟩, ag, keepsMemory_of_memWrite (n := 1) ag⟩
  · intro q _
    cases q <;> simp [getReg]
  · simp
  · simpa using putFlags_low fl s.regs.f
  · simp [KeepsSp]
  · simp [KeepsPc]
  · simp [KeepsCtl]

/-- A meaning that stores one byte. -/
theorem stores_of {i : Instr} {addr : Word} {v : Byte} (h : exec i s = .next (memWrite addr v s)) : Stores i s addr v := by
  have ag : AgentsOf (memWrite addr v s) (memWrite addr v s) := agentsOf_refl _
  refine ⟨_, h, ⟨?_, ?_, ?_, ?_, ?_⟩, ag, keepsMemory_of_memWrite (n := 0) ag⟩
  · intro q _
    cases q <;> simp [getReg]
  · simp [KeepsF]
  · simp [KeepsSp]
  · simp [KeepsPc]
  · simp [KeepsCtl]

/-- A meaning that loads one register. -/
theorem loads_of {i : Instr} {addr : Word} {dst : Reg8} (h : exec i s = .next (setReg dst (busRead s addr) (cycle s))) :
    Loads i s dst addr := by
  have ag : AgentsOf (cycle s) (setReg dst (busRead s addr) (cycle s)) := agentsOf_setReg _ _ (agentsOf_refl _)
  refine ⟨_, h, by simp, ⟨?_, ?_, ?_, ?_, ?_⟩, ag, keepsMemory_of_cycles (n := 1) ag⟩
  · intro q hq
    have hq : q ≠ dst := by simpa using hq
    cases q <;> cases dst <;> first | exact absurd rfl hq | simp [getReg, setReg]
  · cases dst <;> simp [KeepsF, setReg]
  · cases dst <;> simp [KeepsSp, setReg]
  · cases dst <;> simp [KeepsPc, setReg]
  · cases dst <;> simp [KeepsCtl, setReg]

/-- A meaning that sets `PC`, `k` machine cycles later. -/
theorem jumpsTo_of {i : Instr} {target : Word} {k : Nat} (h : exec i s = .next (setPc target (cycles k s))) :
    JumpsTo i s target k := by
  have ag : AgentsOf (cycles k s) (setPc target (cycles k s)) := agentsOf_setPc _ (agentsOf_refl _)
  exact ⟨_, h, by simp [setPc], by simp [KeepsCtl], ag, keepsMemory_of_cycles ag⟩

end Sys2Proof.Machine
end

