-- ==== Sys2Proof/Laws/Invariant.lean ====
section
/-! SUPPORT. Sys2Proof/Laws/Invariant.lean: a tick and a bus write keep the invariants of the agents beside the CPU. -/

namespace Sys2Proof.Machine

/-- The invariants that tell nothing of the CPU's own state. -/
structure AgentsOk (s : State) : Prop where
  dmaOk : s.dma.Ok
  clockOk : s.ppu.ClockOk
  lineOk : s.ppu.LineOk
  modeOk : s.ppu.ModeOk
  columnOk : s.ppu.ColumnOk
  spritesOk : s.ppu.SpritesOk
  pictureOk : frameBufferWf s.ppu.fb = true
  memsOk : s.mems.Ok
  mbcOk : s.mbc.Ok

theorem State.Inv.agentsOk {s : State} (h : s.Inv) : AgentsOk s :=
  ⟨h.dmaOk, h.clockOk, h.lineOk, h.modeOk, h.columnOk, h.spritesOk, h.pictureOk, h.memsOk, h.mbcOk⟩

/-! ### One tick -/

theorem dmaAdvance_ok {d : Dma} (h : d.Ok) (ha : d.active = true) : (dmaAdvance d).Ok := by
  have hi := h.2 ha
  unfold dmaAdvance Dma.Ok
  dsimp only
  refine ⟨by omega, ?_⟩
  split
  · exact fun hh => absurd hh (by decide)
  · intro _; omega

theorem tick_dmaOk {s : State} (h : s.dma.Ok) : (tick s).dma.Ok := by
  rw [tick_dma]
  split
  · next ha => exact dmaAdvance_ok h ha
  · exact h

theorem tick_memsOk {s : State} (h : s.mems.Ok) (hd : s.dma.Ok) : (tick s).mems.Ok := by
  rw [tick_mems]
  split
  · next ha =>
    have hi := hd.2 ha
    exact ⟨h.1, Memory.wf_write h.2.1 (by simpa [Region.size, dmaLength] using hi), h.2.2.1, h.2.2.2.1, h.2.2.2.2⟩
  · exact h

theorem spriteHits_length (m : Mems) (lcdc ly : Byte) : (spriteHits m lcdc ly).length ≤ 10 := by
  unfold spriteHits
  rw [List.length_take]
  omega

theorem insertByX_length (h : SpriteHit) (l : List SpriteHit) : (insertByX h l).length = l.length + 1 := by
  induction l with
  | nil => rfl
  | cons g rest ih =>
    unfold insertByX
    split
    · rfl
    · simp [ih]

theorem sortByX_length (l : List SpriteHit) : (sortByX l).length = l.length := by
  induction l with
  | nil => rfl
  | cons h rest ih => simp [sortByX, insertByX_length, ih]

theorem buildSpriteCache_length (m : Mems) (p : Ppu) : (buildSpriteCache m p).length ≤ 10 := by
  simp only [buildSpriteCache, List.length_map, sortByX_length]
  exact spriteHits_length _ _ _

theorem modeAfter_vblank {t : Nat} (h : 65664 ≤ t) : modeAfter t = .vblank := if_pos h

theorem modeAfter_oamScan {t : Nat} (h : t < 65664) (h' : t % 456 < 80) : modeAfter t = .oamScan :=
  (if_neg (Nat.not_le.mpr h)).trans (if_pos h')

theorem modeAfter_draw {t : Nat} (h : t < 65664) (h' : 80 ≤ t % 456) (h'' : t % 456 < 240) : modeAfter t = .draw :=
  (if_neg (Nat.not_le.mpr h)).trans ((if_neg (Nat.not_lt.mpr h')).trans (if_pos h''))

theorem modeAfter_hblank {t : Nat} (h : t < 65664) (h' : 240 ≤ t % 456) : modeAfter t = .hblank :=
  (if_neg (Nat.not_le.mpr h)).trans
    ((if_neg (Nat.not_lt.mpr (Nat.le_trans (by decide) h'))).trans (if_neg (Nat.not_lt.mpr h')))

/-- What the PPU event of a tick does to the mode, the column, the cache and the frame buffer. -/
theorem ppuEvent_cases (m : Mems) (p : Ppu) :
    (p.ppuClock = vblankStart ∧ ppuEvent m p = { p with mode := .vblank }) ∨
    (vblankStart < p.ppuClock ∧ ppuEvent m p = p) ∨
    (p.ppuClock < vblankStart ∧ p.ppuClock % ticksPerLine = 0 ∧ ppuEvent m p = lineStart m p) ∨
    (p.ppuClock < vblankStart ∧ 0 < p.ppuClock % ticksPerLine ∧ p.ppuClock % ticksPerLine < 80 ∧ ppuEvent m p = p) ∨
    (p.ppuClock < vblankStart ∧ 80 ≤ p.ppuClock % ticksPerLine ∧ p.ppuClock % ticksPerLine < 240 ∧
      ppuEvent m p = drawTick m p) ∨
    (p.ppuClock < vblankStart ∧ p.ppuClock % ticksPerLine = 240 ∧ ppuEvent m p = { p with mode := .hblank }) ∨
    (p.ppuClock < vblankStart ∧ 240 < p.ppuClock % ticksPerLine ∧ ppuEvent m p = p) := by
  unfold ppuEvent
  dsimp only
  by_cases h1 : p.ppuClock = vblankStart
  · exact .inl ⟨h1, by rw [if_pos h1]⟩
  right
  by_cases h2 : p.ppuClock < vblankStart
  · right
    rw [if_neg h1, if_pos h2]
    by_cases h3 : p.ppuClock % ticksPerLine = 0
    · exact .inl ⟨h2, h3, by rw [if_pos h3]⟩
    right
    by_cases h4 : p.ppuClock % ticksPerLine < 80
    · exact .inl ⟨h2, by omega, h4, by rw [if_neg h3, if_neg (by omega), if_neg (by omega)]⟩
    right
    by_cases h5 : p.ppuClock % ticksPerLine < 240
    · exact .inl ⟨h2, by omega, h5, by rw [if_neg h3, if_pos ⟨by omega, h5⟩]⟩
    right
    by_cases h6 : p.ppuClock % ticksPerLine = 240
    · exact .inl ⟨h2, h6, by rw [if_neg h3, if_neg (by omega), if_pos h6]⟩
    · exact .inr ⟨h2, by omega, by rw [if_neg h3, if_neg (by omega), if_neg h6]⟩
  · exact .inl ⟨by omega, by rw [if_neg h1, if_neg h2]⟩

/-- The mode that the tick with `ppu_clock = t` leaves, from the mode before it (R368). -/
theorem ppuEvent_mode (m : Mems) (p : Ppu) (hc : p.ClockOk) (hm : p.ModeOk) : (ppuEvent m p).mode = modeAfter p.ppuClock := by
  have hc' : p.ppuClock < 70224 := hc
  simp only [Ppu.ModeOk] at hm
  have hprev : p.ppuClock ≠ 0 → p.mode = modeAfter (p.ppuClock - 1) := by
    intro h0
    rcases hm with hm | hm
    · exact hm.trans (congrArg modeAfter (by simp only [lastTick, ticksPerFrame]; omega))
    · exact absurd hm.1 h0
  rcases ppuEvent_cases m p with ⟨h, e⟩ | ⟨h, e⟩ | ⟨h, h0, e⟩ | ⟨h, h0, h1, e⟩ | ⟨h, h0, h1, e⟩ | ⟨h, h0, e⟩ | ⟨h, h0, e⟩ <;>
    rw [e] <;> simp only [vblankStart] at h <;> try simp only [ticksPerLine] at h0
  · exact (modeAfter_vblank (by omega)).symm
  · rw [hprev (by omega), modeAfter_vblank (by omega), modeAfter_vblank (by omega)]
  · exact (modeAfter_oamScan h (by omega)).symm
  · simp only [ticksPerLine] at h1
    rw [hprev (by omega), modeAfter_oamScan (by omega) (by omega), modeAfter_oamScan h h1]
  · simp only [ticksPerLine] at h1
    exact (modeAfter_draw h h0 h1).symm
  · exact (modeAfter_hblank h (by omega)).symm
  · rw [hprev (by omega), modeAfter_hblank (by omega) (by omega), modeAfter_hblank h (by omega)]

/-- The counters after a tick (R360, R365, R366). -/
theorem ppuAdvance_clock (p : Ppu) (hc : p.ClockOk) : (ppuAdvance p).ppuClock = (p.ppuClock + 1) % ticksPerFrame := by
  have hc' : p.ppuClock < 70224 := hc
  unfold ppuAdvance
  split
  · next h => rw [h]; rfl
  · next h =>
    simp only [lastTick] at h
    simp only [ticksPerFrame]
    omega

theorem tick_clockOk {s : State} (h : s.ppu.ClockOk) : (tick s).ppu.ClockOk := by
  have e := (ppuEvent_registers (tick s).mems s.ppu).2.2.2.2.2.2.2.2.2.2.2
  have h' : (ppuEvent (tick s).mems s.ppu).ClockOk := by unfold Ppu.ClockOk; rw [e]; exact h
  rw [tick_ppu]
  unfold Ppu.ClockOk
  rw [ppuAdvance_clock _ h']
  exact Nat.mod_lt _ (by decide)

/-- A tick moves `ppu_clock` one further around the frame (R360, R366). -/
theorem tick_ppuClock {s : State} (h : s.ppu.ClockOk) : (tick s).ppu.ppuClock = (s.ppu.ppuClock + 1) % ticksPerFrame := by
  have e := (ppuEvent_registers (tick s).mems s.ppu).2.2.2.2.2.2.2.2.2.2.2
  have h' : (ppuEvent (tick s).mems s.ppu).ClockOk := by unfold Ppu.ClockOk; rw [e]; exact h
  rw [tick_ppu, ppuAdvance_clock _ h', e]

theorem ppuAdvance_ly (p : Ppu) :
    (ppuAdvance p).ly = if p.ppuClock = lastTick then 0 else if p.ppuClock % ticksPerLine = 455 then p.ly + 1 else p.ly := by
  unfold ppuAdvance
  split <;> rfl

theorem tick_lineOk {s : State} (hc : s.ppu.ClockOk) (h : s.ppu.LineOk) : (tick s).ppu.LineOk := by
  have hc' : s.ppu.ppuClock < 70224 := hc
  have r := ppuEvent_registers (tick s).mems s.ppu
  have h' : s.ppu.ly.toNat = s.ppu.ppuClock / 456 := h
  show (tick s).ppu.ly.toNat = (tick s).ppu.ppuClock / 456
  rw [tick_ppuClock hc, tick_ppu, ppuAdvance_ly, r.2.2.2.2.2.2.2.2.2.2.2, r.2.2.2.2.1]
  simp only [ticksPerFrame]
  split
  · next hz =>
    simp only [lastTick] at hz
    rw [hz]; rfl
  · next hz =>
    simp only [lastTick] at hz
    split
    · next hl =>
      simp only [ticksPerLine] at hl
      have one : (1 : Byte).toNat = 1 := rfl
      rw [BitVec.toNat_add, h', one]
      omega
    · next hl =>
      simp only [ticksPerLine] at hl
      omega

theorem tick_modeOk {s : State} (hc : s.ppu.ClockOk) (h : s.ppu.ModeOk) : (tick s).ppu.ModeOk := by
  have hc' : s.ppu.ppuClock < 70224 := hc
  left
  rw [tick_ppuClock hc]
  have e : ((s.ppu.ppuClock + 1) % ticksPerFrame + lastTick) % ticksPerFrame = s.ppu.ppuClock := by
    simp only [ticksPerFrame, lastTick]; omega
  rw [e, ← ppuEvent_mode (tick s).mems s.ppu hc h, tick_ppu]
  unfold ppuAdvance
  split <;> rfl

theorem ppuAdvance_lx (p : Ppu) : (ppuAdvance p).lx = p.lx := by unfold ppuAdvance; split <;> rfl

theorem tick_columnOk {s : State} (hc : s.ppu.ClockOk) (h : s.ppu.ColumnOk) : (tick s).ppu.ColumnOk := by
  have hc' : s.ppu.ppuClock < 70224 := hc
  unfold Ppu.ColumnOk at h ⊢
  rw [tick_ppuClock hc, tick_ppu, ppuAdvance_lx]
  simp only [screenWidth, vblankStart, ticksPerLine, ticksPerFrame] at h ⊢
  obtain ⟨h, h'⟩ := h
  rcases ppuEvent_cases (tick s).mems s.ppu with
    ⟨g, e⟩ | ⟨g, e⟩ | ⟨g, g0, e⟩ | ⟨g, g0, g1, e⟩ | ⟨g, g0, g1, e⟩ | ⟨g, g0, e⟩ | ⟨g, g0, e⟩ <;>
    rw [e] <;> simp only [vblankStart] at g <;> try simp only [ticksPerLine] at g0
  · exact ⟨h, by intro a b; dsimp only; omega⟩
  · exact ⟨h, by intro a b; omega⟩
  · simp only [lineStart]; exact ⟨by omega, by intro a b; omega⟩
  · simp only [ticksPerLine] at g1
    have := h' g (by omega)
    exact ⟨h, by intro a b; omega⟩
  · simp only [ticksPerLine] at g1
    have := h' g (by omega)
    simp only [drawTick]
    exact ⟨by omega, by intro a b; omega⟩
  · have := h' g (by omega)
    exact ⟨h, by intro a b; dsimp only; omega⟩
  · have := h' g (by omega)
    exact ⟨h, by intro a b; omega⟩

theorem tick_spritesOk {s : State} (h : s.ppu.SpritesOk) : (tick s).ppu.SpritesOk := by
  have key : (ppuEvent (tick s).mems s.ppu).sprites.length ≤ 10 := by
    unfold ppuEvent
    dsimp only
    (repeat' split) <;> first
      | exact h
      | (simp only [lineStart]; split; exact buildSpriteCache_length _ _; exact h)
  rw [tick_ppu]
  unfold ppuAdvance
  split <;> exact key

theorem tick_pictureOk {s : State} (h : frameBufferWf s.ppu.fb = true) : frameBufferWf (tick s).ppu.fb = true := by
  have key : frameBufferWf (ppuEvent (tick s).mems s.ppu).fb = true := by
    unfold ppuEvent
    dsimp only
    (repeat' split) <;> first
      | exact h
      | (simp only [drawTick]; split; exact frameBufferWf_putPixel h; exact h)
  rw [tick_ppu]
  unfold ppuAdvance
  split <;> exact key

/-- A tick keeps the invariants of the agents. -/
theorem tick_agentsOk {s : State} (h : AgentsOk s) : AgentsOk (tick s) where
  dmaOk := tick_dmaOk h.dmaOk
  clockOk := tick_clockOk h.clockOk
  lineOk := tick_lineOk h.clockOk h.lineOk
  modeOk := tick_modeOk h.clockOk h.modeOk
  columnOk := tick_columnOk h.clockOk h.columnOk
  spritesOk := tick_spritesOk h.spritesOk
  pictureOk := tick_pictureOk h.pictureOk
  memsOk := tick_memsOk h.memsOk h.dmaOk
  mbcOk := by rw [tick_mbc]; exact h.mbcOk

theorem cycle_agentsOk {s : State} (h : AgentsOk s) : AgentsOk (cycle s) :=
  tick_agentsOk (tick_agentsOk (tick_agentsOk (tick_agentsOk h)))

theorem cycles_agentsOk {s : State} (n : Nat) (h : AgentsOk s) : AgentsOk (cycles n s) := by
  induction n generalizing s with
  | zero => exact h
  | succ n ih => exact ih (cycle_agentsOk h)

/-! ### A bus write -/

theorem bankWritten_ok (v : Byte) : bankWritten v &&& 0x1F ≠ 0 := by
  revert v
  decide

/-- A bus write keeps the invariants of the agents. -/
theorem busWrite_agentsOk {s : State} (h : AgentsOk s) (a : Word) (v : Byte) : AgentsOk (busWrite s a v) := by
  unfold busWrite
  have fits := deviceAt_fits s.bootMapped a
  generalize deviceAt s.bootMapped a = dev at fits
  obtain ⟨hd, hc, hl, hmo, hx, hs, hp, ⟨h1, h2, h3, h4, h5⟩, hb⟩ := h
  cases dev with
  | vram k =>
    exact ⟨hd, hc, hl, hmo, hx, hs, hp,
      ⟨Memory.wf_write h1 (by have := fits.1; have := fits.2; simp only [Region.size]; omega), h2, h3, h4, h5⟩, hb⟩
  | oam k =>
    exact ⟨hd, hc, hl, hmo, hx, hs, hp,
      ⟨h1, Memory.wf_write h2 (by have := fits.1; have := fits.2; simp only [Region.size]; omega), h3, h4, h5⟩, hb⟩
  | wram k =>
    exact ⟨hd, hc, hl, hmo, hx, hs, hp,
      ⟨h1, h2, Memory.wf_write h3 (by have := fits.1; simp only [Region.size]; omega), h4, h5⟩, hb⟩
  | hram k =>
    exact ⟨hd, hc, hl, hmo, hx, hs, hp,
      ⟨h1, h2, h3, Memory.wf_write h4 (by have := fits.1; have := fits.2; simp only [Region.size]; omega), h5⟩, hb⟩
  | cartRam k =>
    simp only [deviceWrite]
    split
    · exact ⟨hd, hc, hl, hmo, hx, hs, hp,
        ⟨h1, h2, h3, h4, Memory.wf_write h5 (by have := fits.1; have := fits.2; simp only [Region.size]; omega)⟩, hb⟩
    · exact ⟨hd, hc, hl, hmo, hx, hs, hp, ⟨h1, h2, h3, h4, h5⟩, hb⟩
  | cartRom k =>
    simp only [deviceWrite, cartRomWrite]
    (repeat' split) <;> first
      | exact ⟨hd, hc, hl, hmo, hx, hs, hp, ⟨h1, h2, h3, h4, h5⟩, hb⟩
      | exact ⟨hd, hc, hl, hmo, hx, hs, hp, ⟨h1, h2, h3, h4, h5⟩, bankWritten_ok v⟩
  | dma => exact ⟨⟨Nat.zero_le _, fun _ => (by decide : 0 < dmaLength)⟩, hc, hl, hmo, hx, hs, hp, ⟨h1, h2, h3, h4, h5⟩, hb⟩
  | io r => cases r <;> exact ⟨hd, hc, hl, hmo, hx, hs, hp, ⟨h1, h2, h3, h4, h5⟩, hb⟩
  | ppu r => cases r <;> exact ⟨hd, hc, hl, hmo, hx, hs, hp, ⟨h1, h2, h3, h4, h5⟩, hb⟩
  | bootUnmap =>
    simp only [deviceWrite]
    split <;> exact ⟨hd, hc, hl, hmo, hx, hs, hp, ⟨h1, h2, h3, h4, h5⟩, hb⟩
  | _ => exact ⟨hd, hc, hl, hmo, hx, hs, hp, ⟨h1, h2, h3, h4, h5⟩, hb⟩

theorem memWrite_agentsOk {s : State} (h : AgentsOk s) (a : Word) (v : Byte) : AgentsOk (memWrite a v s) :=
  cycle_agentsOk (busWrite_agentsOk h a v)

end Sys2Proof.Machine
end

