-- ==== Sys2Proof/Laws/PerInstr.lean ====
section
/-! SUPPORT. Sys2Proof/Laws/PerInstr.lean: the family `Encoding`, a statement about every constructor of `Instr`: the length of
a whole instruction follows from its first byte alone (30_encoding.md R100, R101). -/

namespace Sys2Proof.Laws

/-- A whole instruction is as long as the format of its first byte says (R100, R101). -/
def Encoding.Statement (i : Instr) : Prop :=
  WellFormed i → (encode i).length = (opcodeFormat ((encode i).headD 0)).length

theorem Encoding.nop : Encoding.Statement .nop := fun _ => rfl
theorem Encoding.ldBCNn (nn : Word) : Encoding.Statement (.ldBCNn nn) := fun _ =>
  (by decide : 3 = (opcodeFormat 0x01).length)
theorem Encoding.ldAtBCA : Encoding.Statement .ldAtBCA := fun _ => rfl
theorem Encoding.incBC : Encoding.Statement .incBC := fun _ => rfl
theorem Encoding.incB : Encoding.Statement .incB := fun _ => rfl
theorem Encoding.decB : Encoding.Statement .decB := fun _ => rfl
theorem Encoding.ldBN (n : Byte) : Encoding.Statement (.ldBN n) := fun _ =>
  (by decide : 2 = (opcodeFormat 0x06).length)
theorem Encoding.rlca : Encoding.Statement .rlca := fun _ => rfl
theorem Encoding.ldAtNnSP (nn : Word) : Encoding.Statement (.ldAtNnSP nn) := fun _ =>
  (by decide : 3 = (opcodeFormat 0x08).length)
theorem Encoding.addHLBC : Encoding.Statement .addHLBC := fun _ => rfl
theorem Encoding.ldAAtBC : Encoding.Statement .ldAAtBC := fun _ => rfl
theorem Encoding.decBC : Encoding.Statement .decBC := fun _ => rfl
theorem Encoding.incC : Encoding.Statement .incC := fun _ => rfl
theorem Encoding.decC : Encoding.Statement .decC := fun _ => rfl
theorem Encoding.ldCN (n : Byte) : Encoding.Statement (.ldCN n) := fun _ =>
  (by decide : 2 = (opcodeFormat 0x0E).length)
theorem Encoding.rrca : Encoding.Statement .rrca := fun _ => rfl
theorem Encoding.stop : Encoding.Statement .stop := fun _ => rfl
theorem Encoding.ldDENn (nn : Word) : Encoding.Statement (.ldDENn nn) := fun _ =>
  (by decide : 3 = (opcodeFormat 0x11).length)
theorem Encoding.ldAtDEA : Encoding.Statement .ldAtDEA := fun _ => rfl
theorem Encoding.incDE : Encoding.Statement .incDE := fun _ => rfl
theorem Encoding.incD : Encoding.Statement .incD := fun _ => rfl
theorem Encoding.decD : Encoding.Statement .decD := fun _ => rfl
theorem Encoding.ldDN (n : Byte) : Encoding.Statement (.ldDN n) := fun _ =>
  (by decide : 2 = (opcodeFormat 0x16).length)
theorem Encoding.rla : Encoding.Statement .rla := fun _ => rfl
theorem Encoding.jrE (e : Byte) : Encoding.Statement (.jrE e) := fun _ =>
  (by decide : 2 = (opcodeFormat 0x18).length)
theorem Encoding.addHLDE : Encoding.Statement .addHLDE := fun _ => rfl
theorem Encoding.ldAAtDE : Encoding.Statement .ldAAtDE := fun _ => rfl
theorem Encoding.decDE : Encoding.Statement .decDE := fun _ => rfl
theorem Encoding.incE : Encoding.Statement .incE := fun _ => rfl
theorem Encoding.decE : Encoding.Statement .decE := fun _ => rfl
theorem Encoding.ldEN (n : Byte) : Encoding.Statement (.ldEN n) := fun _ =>
  (by decide : 2 = (opcodeFormat 0x1E).length)
theorem Encoding.rra : Encoding.Statement .rra := fun _ => rfl
theorem Encoding.jrNZE (e : Byte) : Encoding.Statement (.jrNZE e) := fun _ =>
  (by decide : 2 = (opcodeFormat 0x20).length)
theorem Encoding.ldHLNn (nn : Word) : Encoding.Statement (.ldHLNn nn) := fun _ =>
  (by decide : 3 = (opcodeFormat 0x21).length)
theorem Encoding.ldAtHLIncA : Encoding.Statement .ldAtHLIncA := fun _ => rfl
theorem Encoding.incHL : Encoding.Statement .incHL := fun _ => rfl
theorem Encoding.incH : Encoding.Statement .incH := fun _ => rfl
theorem Encoding.decH : Encoding.Statement .decH := fun _ => rfl
theorem Encoding.ldHN (n : Byte) : Encoding.Statement (.ldHN n) := fun _ =>
  (by decide : 2 = (opcodeFormat 0x26).length)
theorem Encoding.daa : Encoding.Statement .daa := fun _ => rfl
theorem Encoding.jrZE (e : Byte) : Encoding.Statement (.jrZE e) := fun _ =>
  (by decide : 2 = (opcodeFormat 0x28).length)
theorem Encoding.addHLHL : Encoding.Statement .addHLHL := fun _ => rfl
theorem Encoding.ldAAtHLInc : Encoding.Statement .ldAAtHLInc := fun _ => rfl
theorem Encoding.decHL : Encoding.Statement .decHL := fun _ => rfl
theorem Encoding.incL : Encoding.Statement .incL := fun _ => rfl
theorem Encoding.decL : Encoding.Statement .decL := fun _ => rfl
theorem Encoding.ldLN (n : Byte) : Encoding.Statement (.ldLN n) := fun _ =>
  (by decide : 2 = (opcodeFormat 0x2E).length)
theorem Encoding.cpl : Encoding.Statement .cpl := fun _ => rfl
theorem Encoding.jrNCE (e : Byte) : Encoding.Statement (.jrNCE e) := fun _ =>
  (by decide : 2 = (opcodeFormat 0x30).length)
theorem Encoding.ldSPNn (nn : Word) : Encoding.Statement (.ldSPNn nn) := fun _ =>
  (by decide : 3 = (opcodeFormat 0x31).length)
theorem Encoding.ldAtHLDecA : Encoding.Statement .ldAtHLDecA := fun _ => rfl
theorem Encoding.incSP : Encoding.Statement .incSP := fun _ => rfl
theorem Encoding.incAtHL : Encoding.Statement .incAtHL := fun _ => rfl
theorem Encoding.decAtHL : Encoding.Statement .decAtHL := fun _ => rfl
theorem Encoding.ldAtHLN (n : Byte) : Encoding.Statement (.ldAtHLN n) := fun _ =>
  (by decide : 2 = (opcodeFormat 0x36).length)
theorem Encoding.scf : Encoding.Statement .scf := fun _ => rfl
theorem Encoding.jrCE (e : Byte) : Encoding.Statement (.jrCE e) := fun _ =>
  (by decide : 2 = (opcodeFormat 0x38).length)
theorem Encoding.addHLSP : Encoding.Statement .addHLSP := fun _ => rfl
theorem Encoding.ldAAtHLDec : Encoding.Statement .ldAAtHLDec := fun _ => rfl
theorem Encoding.decSP : Encoding.Statement .decSP := fun _ => rfl
theorem Encoding.incA : Encoding.Statement .incA := fun _ => rfl
theorem Encoding.decA : Encoding.Statement .decA := fun _ => rfl
theorem Encoding.ldAN (n : Byte) : Encoding.Statement (.ldAN n) := fun _ =>
  (by decide : 2 = (opcodeFormat 0x3E).length)
theorem Encoding.ccf : Encoding.Statement .ccf := fun _ => rfl
theorem Encoding.ldBB : Encoding.Statement .ldBB := fun _ => rfl
theorem Encoding.ldBC : Encoding.Statement .ldBC := fun _ => rfl
theorem Encoding.ldBD : Encoding.Statement .ldBD := fun _ => rfl
theorem Encoding.ldBE : Encoding.Statement .ldBE := fun _ => rfl
theorem Encoding.ldBH : Encoding.Statement .ldBH := fun _ => rfl
theorem Encoding.ldBL : Encoding.Statement .ldBL := fun _ => rfl
theorem Encoding.ldBAtHL : Encoding.Statement .ldBAtHL := fun _ => rfl
theorem Encoding.ldBA : Encoding.Statement .ldBA := fun _ => rfl
theorem Encoding.ldCB : Encoding.Statement .ldCB := fun _ => rfl
theorem Encoding.ldCC : Encoding.Statement .ldCC := fun _ => rfl
theorem Encoding.ldCD : Encoding.Statement .ldCD := fun _ => rfl
theorem Encoding.ldCE : Encoding.Statement .ldCE := fun _ => rfl
theorem Encoding.ldCH : Encoding.Statement .ldCH := fun _ => rfl
theorem Encoding.ldCL : Encoding.Statement .ldCL := fun _ => rfl
theorem Encoding.ldCAtHL : Encoding.Statement .ldCAtHL := fun _ => rfl
theorem Encoding.ldCA : Encoding.Statement .ldCA := fun _ => rfl
theorem Encoding.ldDB : Encoding.Statement .ldDB := fun _ => rfl
theorem Encoding.ldDC : Encoding.Statement .ldDC := fun _ => rfl
theorem Encoding.ldDD : Encoding.Statement .ldDD := fun _ => rfl
theorem Encoding.ldDE : Encoding.Statement .ldDE := fun _ => rfl
theorem Encoding.ldDH : Encoding.Statement .ldDH := fun _ => rfl
theorem Encoding.ldDL : Encoding.Statement .ldDL := fun _ => rfl
theorem Encoding.ldDAtHL : Encoding.Statement .ldDAtHL := fun _ => rfl
theorem Encoding.ldDA : Encoding.Statement .ldDA := fun _ => rfl
theorem Encoding.ldEB : Encoding.Statement .ldEB := fun _ => rfl
theorem Encoding.ldEC : Encoding.Statement .ldEC := fun _ => rfl
theorem Encoding.ldED : Encoding.Statement .ldED := fun _ => rfl
theorem Encoding.ldEE : Encoding.Statement .ldEE := fun _ => rfl
theorem Encoding.ldEH : Encoding.Statement .ldEH := fun _ => rfl
theorem Encoding.ldEL : Encoding.Statement .ldEL := fun _ => rfl
theorem Encoding.ldEAtHL : Encoding.Statement .ldEAtHL := fun _ => rfl
theorem Encoding.ldEA : Encoding.Statement .ldEA := fun _ => rfl
theorem Encoding.ldHB : Encoding.Statement .ldHB := fun _ => rfl
theorem Encoding.ldHC : Encoding.Statement .ldHC := fun _ => rfl
theorem Encoding.ldHD : Encoding.Statement .ldHD := fun _ => rfl
theorem Encoding.ldHE : Encoding.Statement .ldHE := fun _ => rfl
theorem Encoding.ldHH : Encoding.Statement .ldHH := fun _ => rfl
theorem Encoding.ldHL : Encoding.Statement .ldHL := fun _ => rfl
theorem Encoding.ldHAtHL : Encoding.Statement .ldHAtHL := fun _ => rfl
theorem Encoding.ldHA : Encoding.Statement .ldHA := fun _ => rfl
theorem Encoding.ldLB : Encoding.Statement .ldLB := fun _ => rfl
theorem Encoding.ldLC : Encoding.Statement .ldLC := fun _ => rfl
theorem Encoding.ldLD : Encoding.Statement .ldLD := fun _ => rfl
theorem Encoding.ldLE : Encoding.Statement .ldLE := fun _ => rfl
theorem Encoding.ldLH : Encoding.Statement .ldLH := fun _ => rfl
theorem Encoding.ldLL : Encoding.Statement .ldLL := fun _ => rfl
theorem Encoding.ldLAtHL : Encoding.Statement .ldLAtHL := fun _ => rfl
theorem Encoding.ldLA : Encoding.Statement .ldLA := fun _ => rfl
theorem Encoding.ldAtHLB : Encoding.Statement .ldAtHLB := fun _ => rfl
theorem Encoding.ldAtHLC : Encoding.Statement .ldAtHLC := fun _ => rfl
theorem Encoding.ldAtHLD : Encoding.Statement .ldAtHLD := fun _ => rfl
theorem Encoding.ldAtHLE : Encoding.Statement .ldAtHLE := fun _ => rfl
theorem Encoding.ldAtHLH : Encoding.Statement .ldAtHLH := fun _ => rfl
theorem Encoding.ldAtHLL : Encoding.Statement .ldAtHLL := fun _ => rfl
theorem Encoding.halt : Encoding.Statement .halt := fun _ => rfl
theorem Encoding.ldAtHLA : Encoding.Statement .ldAtHLA := fun _ => rfl
theorem Encoding.ldAB : Encoding.Statement .ldAB := fun _ => rfl
theorem Encoding.ldAC : Encoding.Statement .ldAC := fun _ => rfl
theorem Encoding.ldAD : Encoding.Statement .ldAD := fun _ => rfl
theorem Encoding.ldAE : Encoding.Statement .ldAE := fun _ => rfl
theorem Encoding.ldAH : Encoding.Statement .ldAH := fun _ => rfl
theorem Encoding.ldAL : Encoding.Statement .ldAL := fun _ => rfl
theorem Encoding.ldAAtHL : Encoding.Statement .ldAAtHL := fun _ => rfl
theorem Encoding.ldAA : Encoding.Statement .ldAA := fun _ => rfl
theorem Encoding.addAB : Encoding.Statement .addAB := fun _ => rfl
theorem Encoding.addAC : Encoding.Statement .addAC := fun _ => rfl
theorem Encoding.addAD : Encoding.Statement .addAD := fun _ => rfl
theorem Encoding.addAE : Encoding.Statement .addAE := fun _ => rfl
theorem Encoding.addAH : Encoding.Statement .addAH := fun _ => rfl
theorem Encoding.addAL : Encoding.Statement .addAL := fun _ => rfl
theorem Encoding.addAAtHL : Encoding.Statement .addAAtHL := fun _ => rfl
theorem Encoding.addAA : Encoding.Statement .addAA := fun _ => rfl
theorem Encoding.adcAB : Encoding.Statement .adcAB := fun _ => rfl
theorem Encoding.adcAC : Encoding.Statement .adcAC := fun _ => rfl
theorem Encoding.adcAD : Encoding.Statement .adcAD := fun _ => rfl
theorem Encoding.adcAE : Encoding.Statement .adcAE := fun _ => rfl
theorem Encoding.adcAH : Encoding.Statement .adcAH := fun _ => rfl
theorem Encoding.adcAL : Encoding.Statement .adcAL := fun _ => rfl
theorem Encoding.adcAAtHL : Encoding.Statement .adcAAtHL := fun _ => rfl
theorem Encoding.adcAA : Encoding.Statement .adcAA := fun _ => rfl
theorem Encoding.subB : Encoding.Statement .subB := fun _ => rfl
theorem Encoding.subC : Encoding.Statement .subC := fun _ => rfl
theorem Encoding.subD : Encoding.Statement .subD := fun _ => rfl
theorem Encoding.subE : Encoding.Statement .subE := fun _ => rfl
theorem Encoding.subH : Encoding.Statement .subH := fun _ => rfl
theorem Encoding.subL : Encoding.Statement .subL := fun _ => rfl
theorem Encoding.subAtHL : Encoding.Statement .subAtHL := fun _ => rfl
theorem Encoding.subA : Encoding.Statement .subA := fun _ => rfl
theorem Encoding.sbcAB : Encoding.Statement .sbcAB := fun _ => rfl
theorem Encoding.sbcAC : Encoding.Statement .sbcAC := fun _ => rfl
theorem Encoding.sbcAD : Encoding.Statement .sbcAD := fun _ => rfl
theorem Encoding.sbcAE : Encoding.Statement .sbcAE := fun _ => rfl
theorem Encoding.sbcAH : Encoding.Statement .sbcAH := fun _ => rfl
theorem Encoding.sbcAL : Encoding.Statement .sbcAL := fun _ => rfl
theorem Encoding.sbcAAtHL : Encoding.Statement .sbcAAtHL := fun _ => rfl
theorem Encoding.sbcAA : Encoding.Statement .sbcAA := fun _ => rfl
theorem Encoding.andB : Encoding.Statement .andB := fun _ => rfl
theorem Encoding.andC : Encoding.Statement .andC := fun _ => rfl
theorem Encoding.andD : Encoding.Statement .andD := fun _ => rfl
theorem Encoding.andE : Encoding.Statement .andE := fun _ => rfl
theorem Encoding.andH : Encoding.Statement .andH := fun _ => rfl
theorem Encoding.andL : Encoding.Statement .andL := fun _ => rfl
theorem Encoding.andAtHL : Encoding.Statement .andAtHL := fun _ => rfl
theorem Encoding.andA : Encoding.Statement .andA := fun _ => rfl
theorem Encoding.xorB : Encoding.Statement .xorB := fun _ => rfl
theorem Encoding.xorC : Encoding.Statement .xorC := fun _ => rfl
theorem Encoding.xorD : Encoding.Statement .xorD := fun _ => rfl
theorem Encoding.xorE : Encoding.Statement .xorE := fun _ => rfl
theorem Encoding.xorH : Encoding.Statement .xorH := fun _ => rfl
theorem Encoding.xorL : Encoding.Statement .xorL := fun _ => rfl
theorem Encoding.xorAtHL : Encoding.Statement .xorAtHL := fun _ => rfl
theorem Encoding.xorA : Encoding.Statement .xorA := fun _ => rfl
theorem Encoding.orB : Encoding.Statement .orB := fun _ => rfl
theorem Encoding.orC : Encoding.Statement .orC := fun _ => rfl
theorem Encoding.orD : Encoding.Statement .orD := fun _ => rfl
theorem Encoding.orE : Encoding.Statement .orE := fun _ => rfl
theorem Encoding.orH : Encoding.Statement .orH := fun _ => rfl
theorem Encoding.orL : Encoding.Statement .orL := fun _ => rfl
theorem Encoding.orAtHL : Encoding.Statement .orAtHL := fun _ => rfl
theorem Encoding.orA : Encoding.Statement .orA := fun _ => rfl
theorem Encoding.cpB : Encoding.Statement .cpB := fun _ => rfl
theorem Encoding.cpC : Encoding.Statement .cpC := fun _ => rfl
theorem Encoding.cpD : Encoding.Statement .cpD := fun _ => rfl
theorem Encoding.cpE : Encoding.Statement .cpE := fun _ => rfl
theorem Encoding.cpH : Encoding.Statement .cpH := fun _ => rfl
theorem Encoding.cpL : Encoding.Statement .cpL := fun _ => rfl
theorem Encoding.cpAtHL : Encoding.Statement .cpAtHL := fun _ => rfl
theorem Encoding.cpA : Encoding.Statement .cpA := fun _ => rfl
theorem Encoding.retNZ : Encoding.Statement .retNZ := fun _ => rfl
theorem Encoding.popBC : Encoding.Statement .popBC := fun _ => rfl
theorem Encoding.jpNZNn (nn : Word) : Encoding.Statement (.jpNZNn nn) := fun _ =>
  (by decide : 3 = (opcodeFormat 0xC2).length)
theorem Encoding.jpNn (nn : Word) : Encoding.Statement (.jpNn nn) := fun _ =>
  (by decide : 3 = (opcodeFormat 0xC3).length)
theorem Encoding.callNZNn (nn : Word) : Encoding.Statement (.callNZNn nn) := fun _ =>
  (by decide : 3 = (opcodeFormat 0xC4).length)
theorem Encoding.pushBC : Encoding.Statement .pushBC := fun _ => rfl
theorem Encoding.addAN (n : Byte) : Encoding.Statement (.addAN n) := fun _ =>
  (by decide : 2 = (opcodeFormat 0xC6).length)
theorem Encoding.rst00 : Encoding.Statement .rst00 := fun _ => rfl
theorem Encoding.retZ : Encoding.Statement .retZ := fun _ => rfl
theorem Encoding.ret : Encoding.Statement .ret := fun _ => rfl
theorem Encoding.jpZNn (nn : Word) : Encoding.Statement (.jpZNn nn) := fun _ =>
  (by decide : 3 = (opcodeFormat 0xCA).length)
theorem Encoding.prefixCB : Encoding.Statement .prefixCB := fun h => absurd h (by decide)
theorem Encoding.callZNn (nn : Word) : Encoding.Statement (.callZNn nn) := fun _ =>
  (by decide : 3 = (opcodeFormat 0xCC).length)
theorem Encoding.callNn (nn : Word) : Encoding.Statement (.callNn nn) := fun _ =>
  (by decide : 3 = (opcodeFormat 0xCD).length)
theorem Encoding.adcAN (n : Byte) : Encoding.Statement (.adcAN n) := fun _ =>
  (by decide : 2 = (opcodeFormat 0xCE).length)
theorem Encoding.rst08 : Encoding.Statement .rst08 := fun _ => rfl
theorem Encoding.retNC : Encoding.Statement .retNC := fun _ => rfl
theorem Encoding.popDE : Encoding.Statement .popDE := fun _ => rfl
theorem Encoding.jpNCNn (nn : Word) : Encoding.Statement (.jpNCNn nn) := fun _ =>
  (by decide : 3 = (opcodeFormat 0xD2).length)
theorem Encoding.undefD3 : Encoding.Statement .undefD3 := fun _ => rfl
theorem Encoding.callNCNn (nn : Word) : Encoding.Statement (.callNCNn nn) := fun _ =>
  (by decide : 3 = (opcodeFormat 0xD4).length)
theorem Encoding.pushDE : Encoding.Statement .pushDE := fun _ => rfl
theorem Encoding.subN (n : Byte) : Encoding.Statement (.subN n) := fun _ =>
  (by decide : 2 = (opcodeFormat 0xD6).length)
theorem Encoding.rst10 : Encoding.Statement .rst10 := fun _ => rfl
theorem Encoding.retC : Encoding.Statement .retC := fun _ => rfl
theorem Encoding.reti : Encoding.Statement .reti := fun _ => rfl
theorem Encoding.jpCNn (nn : Word) : Encoding.Statement (.jpCNn nn) := fun _ =>
  (by decide : 3 = (opcodeFormat 0xDA).length)
theorem Encoding.undefDB : Encoding.Statement .undefDB := fun _ => rfl
theorem Encoding.callCNn (nn : Word) : Encoding.Statement (.callCNn nn) := fun _ =>
  (by decide : 3 = (opcodeFormat 0xDC).length)
theorem Encoding.undefDD : Encoding.Statement .undefDD := fun _ => rfl
theorem Encoding.sbcAN (n : Byte) : Encoding.Statement (.sbcAN n) := fun _ =>
  (by decide : 2 = (opcodeFormat 0xDE).length)
theorem Encoding.rst18 : Encoding.Statement .rst18 := fun _ => rfl
theorem Encoding.ldhAtNA (n : Byte) : Encoding.Statement (.ldhAtNA n) := fun _ =>
  (by decide : 2 = (opcodeFormat 0xE0).length)
theorem Encoding.popHL : Encoding.Statement .popHL := fun _ => rfl
theorem Encoding.ldAtCA : Encoding.Statement .ldAtCA := fun _ => rfl
theorem Encoding.undefE3 : Encoding.Statement .undefE3 := fun _ => rfl
theorem Encoding.undefE4 : Encoding.Statement .undefE4 := fun _ => rfl
theorem Encoding.pushHL : Encoding.Statement .pushHL := fun _ => rfl
theorem Encoding.andN (n : Byte) : Encoding.Statement (.andN n) := fun _ =>
  (by decide : 2 = (opcodeFormat 0xE6).length)
theorem Encoding.rst20 : Encoding.Statement .rst20 := fun _ => rfl
theorem Encoding.addSPE (e : Byte) : Encoding.Statement (.addSPE e) := fun _ =>
  (by decide : 2 = (opcodeFormat 0xE8).length)
theorem Encoding.jpHL : Encoding.Statement .jpHL := fun _ => rfl
theorem Encoding.ldAtNnA (nn : Word) : Encoding.Statement (.ldAtNnA nn) := fun _ =>
  (by decide : 3 = (opcodeFormat 0xEA).length)
theorem Encoding.undefEB : Encoding.Statement .undefEB := fun _ => rfl
theorem Encoding.undefEC : Encoding.Statement .undefEC := fun _ => rfl
theorem Encoding.undefED : Encoding.Statement .undefED := fun _ => rfl
theorem Encoding.xorN (n : Byte) : Encoding.Statement (.xorN n) := fun _ =>
  (by decide : 2 = (opcodeFormat 0xEE).length)
theorem Encoding.rst28 : Encoding.Statement .rst28 := fun _ => rfl
theorem Encoding.ldhAAtN (n : Byte) : Encoding.Statement (.ldhAAtN n) := fun _ =>
  (by decide : 2 = (opcodeFormat 0xF0).length)
theorem Encoding.popAF : Encoding.Statement .popAF := fun _ => rfl
theorem Encoding.ldAAtC : Encoding.Statement .ldAAtC := fun _ => rfl
theorem Encoding.di : Encoding.Statement .di := fun _ => rfl
theorem Encoding.undefF4 : Encoding.Statement .undefF4 := fun _ => rfl
theorem Encoding.pushAF : Encoding.Statement .pushAF := fun _ => rfl
theorem Encoding.orN (n : Byte) : Encoding.Statement (.orN n) := fun _ =>
  (by decide : 2 = (opcodeFormat 0xF6).length)
theorem Encoding.rst30 : Encoding.Statement .rst30 := fun _ => rfl
theorem Encoding.ldHLSPE (e : Byte) : Encoding.Statement (.ldHLSPE e) := fun _ =>
  (by decide : 2 = (opcodeFormat 0xF8).length)
theorem Encoding.ldSPHL : Encoding.Statement .ldSPHL := fun _ => rfl
theorem Encoding.ldAAtNn (nn : Word) : Encoding.Statement (.ldAAtNn nn) := fun _ =>
  (by decide : 3 = (opcodeFormat 0xFA).length)
theorem Encoding.ei : Encoding.Statement .ei := fun _ => rfl
theorem Encoding.undefFC : Encoding.Statement .undefFC := fun _ => rfl
theorem Encoding.undefFD : Encoding.Statement .undefFD := fun _ => rfl
theorem Encoding.cpN (n : Byte) : Encoding.Statement (.cpN n) := fun _ =>
  (by decide : 2 = (opcodeFormat 0xFE).length)
theorem Encoding.rst38 : Encoding.Statement .rst38 := fun _ => rfl
theorem Encoding.rlcB : Encoding.Statement .rlcB := fun _ => rfl
theorem Encoding.rlcC : Encoding.Statement .rlcC := fun _ => rfl
theorem Encoding.rlcD : Encoding.Statement .rlcD := fun _ => rfl
theorem Encoding.rlcE : Encoding.Statement .rlcE := fun _ => rfl
theorem Encoding.rlcH : Encoding.Statement .rlcH := fun _ => rfl
theorem Encoding.rlcL : Encoding.Statement .rlcL := fun _ => rfl
theorem Encoding.rlcAtHL : Encoding.Statement .rlcAtHL := fun _ => rfl
theorem Encoding.rlcA : Encoding.Statement .rlcA := fun _ => rfl
theorem Encoding.rrcB : Encoding.Statement .rrcB := fun _ => rfl
theorem Encoding.rrcC : Encoding.Statement .rrcC := fun _ => rfl
theorem Encoding.rrcD : Encoding.Statement .rrcD := fun _ => rfl
theorem Encoding.rrcE : Encoding.Statement .rrcE := fun _ => rfl
theorem Encoding.rrcH : Encoding.Statement .rrcH := fun _ => rfl
theorem Encoding.rrcL : Encoding.Statement .rrcL := fun _ => rfl
theorem Encoding.rrcAtHL : Encoding.Statement .rrcAtHL := fun _ => rfl
theorem Encoding.rrcA : Encoding.Statement .rrcA := fun _ => rfl
theorem Encoding.rlB : Encoding.Statement .rlB := fun _ => rfl
theorem Encoding.rlC : Encoding.Statement .rlC := fun _ => rfl
theorem Encoding.rlD : Encoding.Statement .rlD := fun _ => rfl
theorem Encoding.rlE : Encoding.Statement .rlE := fun _ => rfl
theorem Encoding.rlH : Encoding.Statement .rlH := fun _ => rfl
theorem Encoding.rlL : Encoding.Statement .rlL := fun _ => rfl
theorem Encoding.rlAtHL : Encoding.Statement .rlAtHL := fun _ => rfl
theorem Encoding.rlA : Encoding.Statement .rlA := fun _ => rfl
theorem Encoding.rrB : Encoding.Statement .rrB := fun _ => rfl
theorem Encoding.rrC : Encoding.Statement .rrC := fun _ => rfl
theorem Encoding.rrD : Encoding.Statement .rrD := fun _ => rfl
theorem Encoding.rrE : Encoding.Statement .rrE := fun _ => rfl
theorem Encoding.rrH : Encoding.Statement .rrH := fun _ => rfl
theorem Encoding.rrL : Encoding.Statement .rrL := fun _ => rfl
theorem Encoding.rrAtHL : Encoding.Statement .rrAtHL := fun _ => rfl
theorem Encoding.rrA : Encoding.Statement .rrA := fun _ => rfl
theorem Encoding.slaB : Encoding.Statement .slaB := fun _ => rfl
theorem Encoding.slaC : Encoding.Statement .slaC := fun _ => rfl
theorem Encoding.slaD : Encoding.Statement .slaD := fun _ => rfl
theorem Encoding.slaE : Encoding.Statement .slaE := fun _ => rfl
theorem Encoding.slaH : Encoding.Statement .slaH := fun _ => rfl
theorem Encoding.slaL : Encoding.Statement .slaL := fun _ => rfl
theorem Encoding.slaAtHL : Encoding.Statement .slaAtHL := fun _ => rfl
theorem Encoding.slaA : Encoding.Statement .slaA := fun _ => rfl
theorem Encoding.sraB : Encoding.Statement .sraB := fun _ => rfl
theorem Encoding.sraC : Encoding.Statement .sraC := fun _ => rfl
theorem Encoding.sraD : Encoding.Statement .sraD := fun _ => rfl
theorem Encoding.sraE : Encoding.Statement .sraE := fun _ => rfl
theorem Encoding.sraH : Encoding.Statement .sraH := fun _ => rfl
theorem Encoding.sraL : Encoding.Statement .sraL := fun _ => rfl
theorem Encoding.sraAtHL : Encoding.Statement .sraAtHL := fun _ => rfl
theorem Encoding.sraA : Encoding.Statement .sraA := fun _ => rfl
theorem Encoding.swapB : Encoding.Statement .swapB := fun _ => rfl
theorem Encoding.swapC : Encoding.Statement .swapC := fun _ => rfl
theorem Encoding.swapD : Encoding.Statement .swapD := fun _ => rfl
theorem Encoding.swapE : Encoding.Statement .swapE := fun _ => rfl
theorem Encoding.swapH : Encoding.Statement .swapH := fun _ => rfl
theorem Encoding.swapL : Encoding.Statement .swapL := fun _ => rfl
theorem Encoding.swapAtHL : Encoding.Statement .swapAtHL := fun _ => rfl
theorem Encoding.swapA : Encoding.Statement .swapA := fun _ => rfl
theorem Encoding.srlB : Encoding.Statement .srlB := fun _ => rfl
theorem Encoding.srlC : Encoding.Statement .srlC := fun _ => rfl
theorem Encoding.srlD : Encoding.Statement .srlD := fun _ => rfl
theorem Encoding.srlE : Encoding.Statement .srlE := fun _ => rfl
theorem Encoding.srlH : Encoding.Statement .srlH := fun _ => rfl
theorem Encoding.srlL : Encoding.Statement .srlL := fun _ => rfl
theorem Encoding.srlAtHL : Encoding.Statement .srlAtHL := fun _ => rfl
theorem Encoding.srlA : Encoding.Statement .srlA := fun _ => rfl
theorem Encoding.bit0B : Encoding.Statement .bit0B := fun _ => rfl
theorem Encoding.bit0C : Encoding.Statement .bit0C := fun _ => rfl
theorem Encoding.bit0D : Encoding.Statement .bit0D := fun _ => rfl
theorem Encoding.bit0E : Encoding.Statement .bit0E := fun _ => rfl
theorem Encoding.bit0H : Encoding.Statement .bit0H := fun _ => rfl
theorem Encoding.bit0L : Encoding.Statement .bit0L := fun _ => rfl
theorem Encoding.bit0AtHL : Encoding.Statement .bit0AtHL := fun _ => rfl
theorem Encoding.bit0A : Encoding.Statement .bit0A := fun _ => rfl
theorem Encoding.bit1B : Encoding.Statement .bit1B := fun _ => rfl
theorem Encoding.bit1C : Encoding.Statement .bit1C := fun _ => rfl
theorem Encoding.bit1D : Encoding.Statement .bit1D := fun _ => rfl
theorem Encoding.bit1E : Encoding.Statement .bit1E := fun _ => rfl
theorem Encoding.bit1H : Encoding.Statement .bit1H := fun _ => rfl
theorem Encoding.bit1L : Encoding.Statement .bit1L := fun _ => rfl
theorem Encoding.bit1AtHL : Encoding.Statement .bit1AtHL := fun _ => rfl
theorem Encoding.bit1A : Encoding.Statement .bit1A := fun _ => rfl
theorem Encoding.bit2B : Encoding.Statement .bit2B := fun _ => rfl
theorem Encoding.bit2C : Encoding.Statement .bit2C := fun _ => rfl
theorem Encoding.bit2D : Encoding.Statement .bit2D := fun _ => rfl
theorem Encoding.bit2E : Encoding.Statement .bit2E := fun _ => rfl
theorem Encoding.bit2H : Encoding.Statement .bit2H := fun _ => rfl
theorem Encoding.bit2L : Encoding.Statement .bit2L := fun _ => rfl
theorem Encoding.bit2AtHL : Encoding.Statement .bit2AtHL := fun _ => rfl
theorem Encoding.bit2A : Encoding.Statement .bit2A := fun _ => rfl
theorem Encoding.bit3B : Encoding.Statement .bit3B := fun _ => rfl
theorem Encoding.bit3C : Encoding.Statement .bit3C := fun _ => rfl
theorem Encoding.bit3D : Encoding.Statement .bit3D := fun _ => rfl
theorem Encoding.bit3E : Encoding.Statement .bit3E := fun _ => rfl
theorem Encoding.bit3H : Encoding.Statement .bit3H := fun _ => rfl
theorem Encoding.bit3L : Encoding.Statement .bit3L := fun _ => rfl
theorem Encoding.bit3AtHL : Encoding.Statement .bit3AtHL := fun _ => rfl
theorem Encoding.bit3A : Encoding.Statement .bit3A := fun _ => rfl
theorem Encoding.bit4B : Encoding.Statement .bit4B := fun _ => rfl
theorem Encoding.bit4C : Encoding.Statement .bit4C := fun _ => rfl
theorem Encoding.bit4D : Encoding.Statement .bit4D := fun _ => rfl
theorem Encoding.bit4E : Encoding.Statement .bit4E := fun _ => rfl
theorem Encoding.bit4H : Encoding.Statement .bit4H := fun _ => rfl
theorem Encoding.bit4L : Encoding.Statement .bit4L := fun _ => rfl
theorem Encoding.bit4AtHL : Encoding.Statement .bit4AtHL := fun _ => rfl
theorem Encoding.bit4A : Encoding.Statement .bit4A := fun _ => rfl
theorem Encoding.bit5B : Encoding.Statement .bit5B := fun _ => rfl
theorem Encoding.bit5C : Encoding.Statement .bit5C := fun _ => rfl
theorem Encoding.bit5D : Encoding.Statement .bit5D := fun _ => rfl
theorem Encoding.bit5E : Encoding.Statement .bit5E := fun _ => rfl
theorem Encoding.bit5H : Encoding.Statement .bit5H := fun _ => rfl
theorem Encoding.bit5L : Encoding.Statement .bit5L := fun _ => rfl
theorem Encoding.bit5AtHL : Encoding.Statement .bit5AtHL := fun _ => rfl
theorem Encoding.bit5A : Encoding.Statement .bit5A := fun _ => rfl
theorem Encoding.bit6B : Encoding.Statement .bit6B := fun _ => rfl
theorem Encoding.bit6C : Encoding.Statement .bit6C := fun _ => rfl
theorem Encoding.bit6D : Encoding.Statement .bit6D := fun _ => rfl
theorem Encoding.bit6E : Encoding.Statement .bit6E := fun _ => rfl
theorem Encoding.bit6H : Encoding.Statement .bit6H := fun _ => rfl
theorem Encoding.bit6L : Encoding.Statement .bit6L := fun _ => rfl
theorem Encoding.bit6AtHL : Encoding.Statement .bit6AtHL := fun _ => rfl
theorem Encoding.bit6A : Encoding.Statement .bit6A := fun _ => rfl
theorem Encoding.bit7B : Encoding.Statement .bit7B := fun _ => rfl
theorem Encoding.bit7C : Encoding.Statement .bit7C := fun _ => rfl
theorem Encoding.bit7D : Encoding.Statement .bit7D := fun _ => rfl
theorem Encoding.bit7E : Encoding.Statement .bit7E := fun _ => rfl
theorem Encoding.bit7H : Encoding.Statement .bit7H := fun _ => rfl
theorem Encoding.bit7L : Encoding.Statement .bit7L := fun _ => rfl
theorem Encoding.bit7AtHL : Encoding.Statement .bit7AtHL := fun _ => rfl
theorem Encoding.bit7A : Encoding.Statement .bit7A := fun _ => rfl
theorem Encoding.res0B : Encoding.Statement .res0B := fun _ => rfl
theorem Encoding.res0C : Encoding.Statement .res0C := fun _ => rfl
theorem Encoding.res0D : Encoding.Statement .res0D := fun _ => rfl
theorem Encoding.res0E : Encoding.Statement .res0E := fun _ => rfl
theorem Encoding.res0H : Encoding.Statement .res0H := fun _ => rfl
theorem Encoding.res0L : Encoding.Statement .res0L := fun _ => rfl
theorem Encoding.res0AtHL : Encoding.Statement .res0AtHL := fun _ => rfl
theorem Encoding.res0A : Encoding.Statement .res0A := fun _ => rfl
theorem Encoding.res1B : Encoding.Statement .res1B := fun _ => rfl
theorem Encoding.res1C : Encoding.Statement .res1C := fun _ => rfl
theorem Encoding.res1D : Encoding.Statement .res1D := fun _ => rfl
theorem Encoding.res1E : Encoding.Statement .res1E := fun _ => rfl
theorem Encoding.res1H : Encoding.Statement .res1H := fun _ => rfl
theorem Encoding.res1L : Encoding.Statement .res1L := fun _ => rfl
theorem Encoding.res1AtHL : Encoding.Statement .res1AtHL := fun _ => rfl
theorem Encoding.res1A : Encoding.Statement .res1A := fun _ => rfl
theorem Encoding.res2B : Encoding.Statement .res2B := fun _ => rfl
theorem Encoding.res2C : Encoding.Statement .res2C := fun _ => rfl
theorem Encoding.res2D : Encoding.Statement .res2D := fun _ => rfl
theorem Encoding.res2E : Encoding.Statement .res2E := fun _ => rfl
theorem Encoding.res2H : Encoding.Statement .res2H := fun _ => rfl
theorem Encoding.res2L : Encoding.Statement .res2L := fun _ => rfl
theorem Encoding.res2AtHL : Encoding.Statement .res2AtHL := fun _ => rfl
theorem Encoding.res2A : Encoding.Statement .res2A := fun _ => rfl
theorem Encoding.res3B : Encoding.Statement .res3B := fun _ => rfl
theorem Encoding.res3C : Encoding.Statement .res3C := fun _ => rfl
theorem Encoding.res3D : Encoding.Statement .res3D := fun _ => rfl
theorem Encoding.res3E : Encoding.Statement .res3E := fun _ => rfl
theorem Encoding.res3H : Encoding.Statement .res3H := fun _ => rfl
theorem Encoding.res3L : Encoding.Statement .res3L := fun _ => rfl
theorem Encoding.res3AtHL : Encoding.Statement .res3AtHL := fun _ => rfl
theorem Encoding.res3A : Encoding.Statement .res3A := fun _ => rfl
theorem Encoding.res4B : Encoding.Statement .res4B := fun _ => rfl
theorem Encoding.res4C : Encoding.Statement .res4C := fun _ => rfl
theorem Encoding.res4D : Encoding.Statement .res4D := fun _ => rfl
theorem Encoding.res4E : Encoding.Statement .res4E := fun _ => rfl
theorem Encoding.res4H : Encoding.Statement .res4H := fun _ => rfl
theorem Encoding.res4L : Encoding.Statement .res4L := fun _ => rfl
theorem Encoding.res4AtHL : Encoding.Statement .res4AtHL := fun _ => rfl
theorem Encoding.res4A : Encoding.Statement .res4A := fun _ => rfl
theorem Encoding.res5B : Encoding.Statement .res5B := fun _ => rfl
theorem Encoding.res5C : Encoding.Statement .res5C := fun _ => rfl
theorem Encoding.res5D : Encoding.Statement .res5D := fun _ => rfl
theorem Encoding.res5E : Encoding.Statement .res5E := fun _ => rfl
theorem Encoding.res5H : Encoding.Statement .res5H := fun _ => rfl
theorem Encoding.res5L : Encoding.Statement .res5L := fun _ => rfl
theorem Encoding.res5AtHL : Encoding.Statement .res5AtHL := fun _ => rfl
theorem Encoding.res5A : Encoding.Statement .res5A := fun _ => rfl
theorem Encoding.res6B : Encoding.Statement .res6B := fun _ => rfl
theorem Encoding.res6C : Encoding.Statement .res6C := fun _ => rfl
theorem Encoding.res6D : Encoding.Statement .res6D := fun _ => rfl
theorem Encoding.res6E : Encoding.Statement .res6E := fun _ => rfl
theorem Encoding.res6H : Encoding.Statement .res6H := fun _ => rfl
theorem Encoding.res6L : Encoding.Statement .res6L := fun _ => rfl
theorem Encoding.res6AtHL : Encoding.Statement .res6AtHL := fun _ => rfl
theorem Encoding.res6A : Encoding.Statement .res6A := fun _ => rfl
theorem Encoding.res7B : Encoding.Statement .res7B := fun _ => rfl
theorem Encoding.res7C : Encoding.Statement .res7C := fun _ => rfl
theorem Encoding.res7D : Encoding.Statement .res7D := fun _ => rfl
theorem Encoding.res7E : Encoding.Statement .res7E := fun _ => rfl
theorem Encoding.res7H : Encoding.Statement .res7H := fun _ => rfl
theorem Encoding.res7L : Encoding.Statement .res7L := fun _ => rfl
theorem Encoding.res7AtHL : Encoding.Statement .res7AtHL := fun _ => rfl
theorem Encoding.res7A : Encoding.Statement .res7A := fun _ => rfl
theorem Encoding.set0B : Encoding.Statement .set0B := fun _ => rfl
theorem Encoding.set0C : Encoding.Statement .set0C := fun _ => rfl
theorem Encoding.set0D : Encoding.Statement .set0D := fun _ => rfl
theorem Encoding.set0E : Encoding.Statement .set0E := fun _ => rfl
theorem Encoding.set0H : Encoding.Statement .set0H := fun _ => rfl
theorem Encoding.set0L : Encoding.Statement .set0L := fun _ => rfl
theorem Encoding.set0AtHL : Encoding.Statement .set0AtHL := fun _ => rfl
theorem Encoding.set0A : Encoding.Statement .set0A := fun _ => rfl
theorem Encoding.set1B : Encoding.Statement .set1B := fun _ => rfl
theorem Encoding.set1C : Encoding.Statement .set1C := fun _ => rfl
theorem Encoding.set1D : Encoding.Statement .set1D := fun _ => rfl
theorem Encoding.set1E : Encoding.Statement .set1E := fun _ => rfl
theorem Encoding.set1H : Encoding.Statement .set1H := fun _ => rfl
theorem Encoding.set1L : Encoding.Statement .set1L := fun _ => rfl
theorem Encoding.set1AtHL : Encoding.Statement .set1AtHL := fun _ => rfl
theorem Encoding.set1A : Encoding.Statement .set1A := fun _ => rfl
theorem Encoding.set2B : Encoding.Statement .set2B := fun _ => rfl
theorem Encoding.set2C : Encoding.Statement .set2C := fun _ => rfl
theorem Encoding.set2D : Encoding.Statement .set2D := fun _ => rfl
theorem Encoding.set2E : Encoding.Statement .set2E := fun _ => rfl
theorem Encoding.set2H : Encoding.Statement .set2H := fun _ => rfl
theorem Encoding.set2L : Encoding.Statement .set2L := fun _ => rfl
theorem Encoding.set2AtHL : Encoding.Statement .set2AtHL := fun _ => rfl
theorem Encoding.set2A : Encoding.Statement .set2A := fun _ => rfl
theorem Encoding.set3B : Encoding.Statement .set3B := fun _ => rfl
theorem Encoding.set3C : Encoding.Statement .set3C := fun _ => rfl
theorem Encoding.set3D : Encoding.Statement .set3D := fun _ => rfl
theorem Encoding.set3E : Encoding.Statement .set3E := fun _ => rfl
theorem Encoding.set3H : Encoding.Statement .set3H := fun _ => rfl
theorem Encoding.set3L : Encoding.Statement .set3L := fun _ => rfl
theorem Encoding.set3AtHL : Encoding.Statement .set3AtHL := fun _ => rfl
theorem Encoding.set3A : Encoding.Statement .set3A := fun _ => rfl
theorem Encoding.set4B : Encoding.Statement .set4B := fun _ => rfl
theorem Encoding.set4C : Encoding.Statement .set4C := fun _ => rfl
theorem Encoding.set4D : Encoding.Statement .set4D := fun _ => rfl
theorem Encoding.set4E : Encoding.Statement .set4E := fun _ => rfl
theorem Encoding.set4H : Encoding.Statement .set4H := fun _ => rfl
theorem Encoding.set4L : Encoding.Statement .set4L := fun _ => rfl
theorem Encoding.set4AtHL : Encoding.Statement .set4AtHL := fun _ => rfl
theorem Encoding.set4A : Encoding.Statement .set4A := fun _ => rfl
theorem Encoding.set5B : Encoding.Statement .set5B := fun _ => rfl
theorem Encoding.set5C : Encoding.Statement .set5C := fun _ => rfl
theorem Encoding.set5D : Encoding.Statement .set5D := fun _ => rfl
theorem Encoding.set5E : Encoding.Statement .set5E := fun _ => rfl
theorem Encoding.set5H : Encoding.Statement .set5H := fun _ => rfl
theorem Encoding.set5L : Encoding.Statement .set5L := fun _ => rfl
theorem Encoding.set5AtHL : Encoding.Statement .set5AtHL := fun _ => rfl
theorem Encoding.set5A : Encoding.Statement .set5A := fun _ => rfl
theorem Encoding.set6B : Encoding.Statement .set6B := fun _ => rfl
theorem Encoding.set6C : Encoding.Statement .set6C := fun _ => rfl
theorem Encoding.set6D : Encoding.Statement .set6D := fun _ => rfl
theorem Encoding.set6E : Encoding.Statement .set6E := fun _ => rfl
theorem Encoding.set6H : Encoding.Statement .set6H := fun _ => rfl
theorem Encoding.set6L : Encoding.Statement .set6L := fun _ => rfl
theorem Encoding.set6AtHL : Encoding.Statement .set6AtHL := fun _ => rfl
theorem Encoding.set6A : Encoding.Statement .set6A := fun _ => rfl
theorem Encoding.set7B : Encoding.Statement .set7B := fun _ => rfl
theorem Encoding.set7C : Encoding.Statement .set7C := fun _ => rfl
theorem Encoding.set7D : Encoding.Statement .set7D := fun _ => rfl
theorem Encoding.set7E : Encoding.Statement .set7E := fun _ => rfl
theorem Encoding.set7H : Encoding.Statement .set7H := fun _ => rfl
theorem Encoding.set7L : Encoding.Statement .set7L := fun _ => rfl
theorem Encoding.set7AtHL : Encoding.Statement .set7AtHL := fun _ => rfl
theorem Encoding.set7A : Encoding.Statement .set7A := fun _ => rfl

end Sys2Proof.Laws
end

