-- ==== Sys2Proof/Laws/Ppu.lean ====
section
/-! SUPPORT. Sys2Proof/Laws/Ppu.lean: what the lookups of the pixel composition give, as numbers (62_ppu.md R353, R354, R375,
R380). -/

namespace Sys2Proof.Machine

/-- A bit of a byte as a number. -/
theorem toNat_getLsbD (b : Byte) (i : Nat) : (b.getLsbD i).toNat = b.toNat / 2 ^ i % 2 := by
  rw [BitVec.getLsbD, Nat.testBit_eq_decide_div_mod_eq]
  rcases Nat.mod_two_eq_zero_or_one (b.toNat / 2 ^ i) with h | h <;> simp [h]

/-- The low bit of a colour index comes from the first byte of the line, the high bit from the second (R353). -/
theorem tilePixel_toNat (m : Mems) (a k : Nat) :
    (tilePixel m a k).toNat =
      2 * ((vramByte m (a + 1)).toNat / 2 ^ (7 - k) % 2) + (vramByte m a).toNat / 2 ^ (7 - k) % 2 := by
  rw [← toNat_getLsbD, ← toNat_getLsbD]
  unfold tilePixel colourIndex
  cases (vramByte m a).getLsbD (7 - k) <;> cases (vramByte m (a + 1)).getLsbD (7 - k) <;> rfl

/-- Entry `i` of a palette is the `i`-th pair of bits of its register (R42). -/
theorem paletteShade_toNat (reg : Byte) (i : BitVec 2) : (paletteShade reg i).toNat = reg.toNat / 4 ^ i.toNat % 4 := by
  simp [paletteShade, BitVec.extractLsb'_toNat, Nat.shiftRight_eq_div_pow, Nat.pow_mul]

/-- The VRAM offset of the first line of a map byte's tile: signed numbers 128 to 255 fall on the same offsets in both
addressings (R375). -/
def tileStart (lcdc idx : Byte) : Nat :=
  if lcdc.getLsbD 4 = false ∧ idx.toNat < 128 then 0x1000 + 16 * idx.toNat else 16 * idx.toNat

/-- `MapIndex` reads the tile that the map byte selects (R375). -/
theorem mapIndex_eq_tilePixel (m : Mems) (lcdc : Byte) (sel : Bool) (x y : Nat) :
    mapIndex m lcdc sel x y =
      tilePixel m
        (tileStart lcdc (vramByte m ((if sel then 0x1C00 else 0x1800) + 32 * (y / 8) + x / 8)) + 2 * (y % 8)) (x % 8) := by
  have e : (if sel then 0x1C00 else 0x1800) + y / 8 * 32 + x / 8 = (if sel then 0x1C00 else 0x1800) + 32 * (y / 8) + x / 8 := by
    rw [Nat.mul_comm]
  simp only [mapIndex, e]
  generalize vramByte m _ = v
  have hv := v.isLt
  congr 1
  simp only [tileStart, BitVec.toInt]
  cases lcdc.getLsbD 4
  · simp only [Bool.false_eq_true, if_false, true_and]
    split <;> split <;> omega
  · simp only [if_true, Bool.true_eq_false, false_and, if_false]
    omega

/-- A sprite is opaque at a column exactly where it shows a nonzero index (R380). -/
theorem opaqueAt_eq (lx : Nat) (sp : Sprite) : opaqueAt lx sp = (spritePixel lx sp != 0) := by
  unfold opaqueAt spritePixel
  by_cases h : 0 ≤ (lx : Int) - sp.x ∧ (lx : Int) - sp.x ≤ 7
  · rw [if_pos h, decide_eq_true h.1, decide_eq_true h.2, Bool.true_and, Bool.true_and]
  · rw [if_neg h, ← Bool.decide_and, decide_eq_false h]
    rfl

end Sys2Proof.Machine
end

