-- ==== Sys2Proof/Tests/Slice0.lean ====
section
/-! SUPPORT. Sys2Proof/Tests/Slice0.lean: tests of the model. Every expected result is taken from spec/95_test_vectors.md (the
part is named), from an instruction rule's own example, or from an encoding of 30_encoding.md. The second half shows, for
each statement with hypotheses, concrete values that meet them. -/

set_option Elab.async false

namespace Sys2Proof.Tests

open Sys2Proof.Machine

/-! ### Helpers -/

/-- The reset state with up to three bytes of code at `PC`. -/
def codeState (bytes : List Byte) : State := placeCode bytes State.reset

/-- The same with the CPU registers changed. -/
def codeWith (bytes : List Byte) (f : Regs → Regs) : State :=
  let s := codeState bytes
  { s with regs := f s.regs }

/-- Store a byte without letting time pass. -/
def poke (a : Word) (v : Byte) (s : State) : State := busWrite s a v

/-- What holds of the state after one step. -/
def stepIs (s : State) (p : State → Bool) : Bool :=
  match step s with
  | .next t => p t
  | _ => false

/-- The registers `A` and `F` after one step. -/
def stepAF (s : State) (a f : Byte) : Bool := stepIs s fun t => t.regs.a == a && t.regs.f == f

/-- The instruction that the decoder reads at the head of a list of bytes. -/
def decodes (bytes : List Byte) : Option Instr :=
  match decode bytes with
  | .ok (i, _) => some i
  | .error _ => none

/-! ### Well-formedness -/

/-- The bare prefix is the one term that is not a whole instruction (R266). -/
theorem test_ill_formed_prefix_refused : ¬WellFormed .prefixCB := by decide

theorem test_well_formed_accepted : WellFormed .nop ∧ WellFormed (.ldBCNn 0xFFFF) ∧ WellFormed .bit7H := by decide

/-! ### Decoding: words written out from 30_encoding.md (R107, R109) -/

/-- R113: `C3 50 01`, `CB 7C`, `D3`. -/
theorem test_decode_document_words :
    decodes [0xC3, 0x50, 0x01] = some (.jpNn 0x0150) ∧ decodes [0xCB, 0x7C] = some .bit7H ∧
      decodes [0xD3] = some .undefD3 := by decide

/-- 8-bit loads: `01 000 001`, `00 111 110 n`, `01 110 011`, `00 010 010`, `11 100 000 n`, `11 110 010`, `00 101 010`. -/
theorem test_decode_load8 :
    decodes [0b01000001] = some .ldBC ∧ decodes [0b00111110, 0x7F] = some (.ldAN 0x7F) ∧
      decodes [0b01110011] = some .ldAtHLE ∧ decodes [0b00010010] = some .ldAtDEA ∧
      decodes [0b11100000, 0x46] = some (.ldhAtNA 0x46) ∧ decodes [0b11110010] = some .ldAAtC ∧
      decodes [0b00101010] = some .ldAAtHLInc := by decide

/-- 16-bit loads and the stack: `00 001 000 nn`, `00 100 001 nn`, `11 111 001`, `11 110 101`, `11 010 001`. -/
theorem test_decode_load16 :
    decodes [0b00001000, 0x00, 0xC1] = some (.ldAtNnSP 0xC100) ∧ decodes [0b00100001, 0x00, 0x80] = some (.ldHLNn 0x8000) ∧
      decodes [0b11111001] = some .ldSPHL ∧ decodes [0b11110101] = some .pushAF ∧ decodes [0b11010001] = some .popDE := by
  decide

/-- 8-bit arithmetic: `10 001 011`, `11 101 110 n`, `10 111 110`, `00 110 100`, `00 101 101`, `00 100 111`. -/
theorem test_decode_alu8 :
    decodes [0b10001011] = some .adcAE ∧ decodes [0b11101110, 0x0F] = some (.xorN 0x0F) ∧
      decodes [0b10111110] = some .cpAtHL ∧ decodes [0b00110100] = some .incAtHL ∧ decodes [0b00101101] = some .decL ∧
      decodes [0b00100111] = some .daa := by decide

/-- 16-bit arithmetic: `00 011 001`, `00 110 011`, `00 011 011`, `11 101 000 e`. -/
theorem test_decode_alu16 :
    decodes [0b00011001] = some .addHLDE ∧ decodes [0b00110011] = some .incSP ∧ decodes [0b00011011] = some .decDE ∧
      decodes [0b11101000, 0xFE] = some (.addSPE 0xFE) := by decide

/-- Rotates and bits: `00 010 111`, `CB 00 110 111`, `CB 01 000 110`, `CB 10 011 000`, `CB 11 111 110`. -/
theorem test_decode_rotate_bit :
    decodes [0b00010111] = some .rla ∧ decodes [0xCB, 0b00110111] = some .swapA ∧
      decodes [0xCB, 0b01000110] = some .bit0AtHL ∧ decodes [0xCB, 0b10011000] = some .res3B ∧
      decodes [0xCB, 0b11111110] = some .set7AtHL := by decide

/-- Jumps, calls and returns: `00 100 000 e`, `11 011 010 nn`, `11 011 100 nn`, `11 010 000`, `11 011 001`, `11 101 111`. -/
theorem test_decode_control :
    decodes [0b00100000, 0xFC] = some (.jrNZE 0xFC) ∧ decodes [0b11011010, 0xFF, 0xFF] = some (.jpCNn 0xFFFF) ∧
      decodes [0b11011100, 0x00, 0x20] = some (.callCNn 0x2000) ∧ decodes [0b11010000] = some .retNC ∧
      decodes [0b11011001] = some .reti ∧ decodes [0b11101111] = some .rst28 := by decide

/-- System: `01 110 110`, `00 010 000`, `11 110 011`, `11 111 011`; `00 010 000` takes no second byte (R263). -/
theorem test_decode_system :
    decodes [0b01110110] = some .halt ∧ decodes [0b00010000] = some .stop ∧ decodes [0b11110011] = some .di ∧
      decodes [0b11111011] = some .ei := by decide

/-- Too few bytes are refused by name. -/
theorem test_decode_truncated : decodes [] = none ∧ decodes [0xC3, 0x50] = none ∧ decodes [0x3E] = none := by decide

/-- Words of spec/opcode_table.json, as numbers: `CB` rows are `0xCB00 + op2` (R111), absent operand bytes are zero. -/
theorem test_table_words :
    decodeTableWord 8 0x00 = some .nop ∧ decodeTableWord 8 0x01 = some (.ldBCNn 0) ∧
      decodeTableWord 16 0xCB7C = some .bit7H ∧ decodeTableWord 8 0xFD = some .undefFD := by decide

/-- Placing a table word makes the next step run it, at the address `State.reset` fetches from. -/
theorem test_with_fetch_word :
    stepIs (State.reset.withFetchWord 8 0x04) (fun t => t.regs.b == 0x01 && t.regs.pc == 0x0101) = true ∧
      stepIs (State.reset.withFetchWord 16 0xCBDF) (fun t => t.regs.a == 0x09 && t.regs.pc == 0x0102) = true := by
  decide +kernel

/-! ### 8-bit loads (95_test_vectors.md 2.1) -/

theorem test_ld_b_c : stepIs (codeState [0x41]) (fun t => t.regs.b == 0x13 && t.regs.pc == 0x0101) = true := by
  decide +kernel

theorem test_ld_l_at_hl :
    stepIs (poke 0xC010 0x99 (codeWith [0x6E] fun r => { r with h := 0xC0, l := 0x10 })) (fun t => t.regs.l == 0x99) = true := by
  decide +kernel

theorem test_ld_at_hl_h :
    stepIs (codeWith [0x74] fun r => { r with h := 0xC0, l := 0x20 }) (fun t => busRead t 0xC020 == 0xC0 && t.clock == 8)
      = true := by decide +kernel

theorem test_ld_at_nn_a_echo :
    stepIs (codeWith [0xEA, 0x00, 0xE0] fun r => { r with a := 0x66 })
      (fun t => busRead t 0xE000 == 0x66 && busRead t 0xC000 == 0x66) = true := by decide +kernel

theorem test_ldh_at_n_a_interrupt_enable :
    stepIs (codeWith [0xE0, 0xFF] fun r => { r with a := 0xFF }) (fun t => busRead t 0xFFFF == 0x1F && t.clock == 12) = true := by
  decide +kernel

theorem test_ldh_a_at_n_joypad : stepIs (codeState [0xF0, 0x00]) (fun t => t.regs.a == 0x3F) = true := by decide +kernel

theorem test_ld_at_hl_inc_a_wraps :
    stepIs (codeWith [0x22] fun r => { r with a := 0x15, h := 0xFF, l := 0xFF })
      (fun t => t.regs.h == 0x00 && t.regs.l == 0x00 && busRead t 0xFFFF == 0x15) = true := by decide +kernel

theorem test_ld_a_at_hl_dec :
    stepIs (poke 0xC100 0x31 (codeWith [0x3A] fun r => { r with h := 0xC1, l := 0x00 }))
      (fun t => t.regs.a == 0x31 && t.regs.h == 0xC0 && t.regs.l == 0xFF) = true := by decide +kernel

/-! ### 16-bit loads and the stack (95_test_vectors.md 2.2) -/

theorem test_ld_de_nn : stepIs (codeState [0x11, 0xCD, 0xAB]) (fun t => t.regs.d == 0xAB && t.regs.e == 0xCD) = true := by
  decide +kernel

theorem test_ld_at_nn_sp_low_byte_first :
    stepIs (codeWith [0x08, 0x00, 0xC1] fun r => { r with sp := 0xFFF8 })
      (fun t => busRead t 0xC100 == 0xF8 && busRead t 0xC101 == 0xFF) = true := by decide +kernel

theorem test_ld_hl_sp_minus_8 :
    stepIs (codeWith [0xF8, 0xF8] fun r => { r with sp := 0xD00F })
      (fun t => t.regs.f == 0x30 && t.regs.h == 0xD0 && t.regs.l == 0x07) = true := by decide +kernel

theorem test_push_bc_high_byte_above :
    stepIs (codeWith [0xC5] fun r => { r with b := 0x12, c := 0x34, sp := 0xD000 })
      (fun t => busRead t 0xCFFF == 0x12 && busRead t 0xCFFE == 0x34 && t.regs.sp == 0xCFFE) = true := by decide +kernel

theorem test_pop_af_clears_low_nibble :
    stepIs (poke 0xC200 0xFF (poke 0xC201 0x12 (codeWith [0xF1] fun r => { r with sp := 0xC200 })))
      (fun t => t.regs.a == 0x12 && t.regs.f == 0xF0 && t.regs.sp == 0xC202) = true := by decide +kernel

/-! ### 8-bit arithmetic and logic (95_test_vectors.md 1.1, 2.3) -/

/-- S1. -/
theorem test_add_a_b : stepAF (codeWith [0x80] fun r => { r with a := 0x3A, b := 0xC6, f := 0 }) 0x00 0xB0 = true := by
  decide +kernel

theorem test_adc_a_n_carry_in : stepAF (codeWith [0xCE, 0x0F] fun r => { r with a := 0, f := 0x10 }) 0x10 0x20 = true := by
  decide +kernel

theorem test_sub_b_borrow : stepAF (codeWith [0x90] fun r => { r with a := 0, b := 1, f := 0 }) 0xFF 0x70 = true := by
  decide +kernel

theorem test_sbc_a_b_two_borrows :
    stepAF (codeWith [0x98] fun r => { r with a := 0x10, b := 0x0F, f := 0x10 }) 0x00 0xE0 = true := by decide +kernel

theorem test_and_b : stepAF (codeWith [0xA0] fun r => { r with a := 0x5A, b := 0x3F, f := 0xD0 }) 0x1A 0x20 = true := by
  decide +kernel

theorem test_xor_n : stepAF (codeWith [0xEE, 0x0F] fun r => { r with a := 0xFF, f := 0xF0 }) 0xF0 0x00 = true := by
  decide +kernel

theorem test_or_at_hl :
    stepAF (poke 0xC000 0x80 (codeWith [0xB6] fun r => { r with a := 1, f := 0, h := 0xC0, l := 0 })) 0x81 0x00 = true := by
  decide +kernel

theorem test_cp_b_keeps_a : stepAF (codeWith [0xB8] fun r => { r with a := 0x3C, b := 0x40, f := 0 }) 0x3C 0x50 = true := by
  decide +kernel

theorem test_inc_b_keeps_carry :
    stepIs (codeWith [0x04] fun r => { r with b := 0xFF, f := 0x10 }) (fun t => t.regs.b == 0 && t.regs.f == 0xB0) = true := by
  decide +kernel

theorem test_dec_at_hl :
    stepIs (codeWith [0x35] fun r => { r with f := 0x10, h := 0xC0, l := 0 })
      (fun t => busRead t 0xC000 == 0xFF && t.regs.f == 0x70 && t.clock == 12) = true := by decide +kernel

/-- The second half of S2. -/
theorem test_daa_after_add : stepAF (codeWith [0x27] fun r => { r with a := 0x7D, f := 0 }) 0x83 0x00 = true := by
  decide +kernel

theorem test_daa_after_subtract : stepAF (codeWith [0x27] fun r => { r with a := 0x66, f := 0x70 }) 0x00 0xD0 = true := by
  decide +kernel

theorem test_cpl : stepAF (codeWith [0x2F] fun r => { r with a := 0x35, f := 0x90 }) 0xCA 0xF0 = true := by decide +kernel

theorem test_ccf : stepAF (codeWith [0x3F] fun r => { r with a := 0x01, f := 0xF0 }) 0x01 0x80 = true := by decide +kernel

theorem test_scf : stepAF (codeWith [0x37] fun r => { r with a := 0x01, f := 0xE0 }) 0x01 0x90 = true := by decide +kernel

/-! ### 16-bit arithmetic (95_test_vectors.md 2.4) -/

theorem test_add_hl_bc_keeps_zero :
    stepIs (codeWith [0x09] fun r => { r with h := 0x8A, l := 0x23, b := 0x06, c := 0x05, f := 0x80 })
      (fun t => t.regs.f == 0xA0 && t.regs.h == 0x90 && t.regs.l == 0x28) = true := by decide +kernel

theorem test_inc_bc_keeps_flags :
    stepIs (codeWith [0x03] fun r => { r with b := 0xFF, c := 0xFF, f := 0xF0 })
      (fun t => t.regs.b == 0 && t.regs.c == 0 && t.regs.f == 0xF0) = true := by decide +kernel

theorem test_add_sp_minus_2 :
    stepIs (codeWith [0xE8, 0xFE] fun r => { r with sp := 0x0001, f := 0xF0 })
      (fun t => t.regs.sp == 0xFFFF && t.regs.f == 0x00 && t.clock == 16) = true := by decide +kernel

/-! ### Rotates, shifts and bits (95_test_vectors.md 2.5) -/

theorem test_rla_clears_zero : stepAF (codeWith [0x17] fun r => { r with a := 0x80, f := 0 }) 0x00 0x10 = true := by
  decide +kernel

theorem test_rrca : stepAF (codeWith [0x0F] fun r => { r with a := 0x3B, f := 0 }) 0x9D 0x10 = true := by decide +kernel

theorem test_rl_a_sets_zero : stepAF (codeWith [0xCB, 0x17] fun r => { r with a := 0x80, f := 0 }) 0x00 0x90 = true := by
  decide +kernel

theorem test_sra_a : stepAF (codeWith [0xCB, 0x2F] fun r => { r with a := 0x8A, f := 0 }) 0xC5 0x00 = true := by
  decide +kernel

theorem test_swap_at_hl :
    stepIs (poke 0xC000 0xA5 (codeWith [0xCB, 0x36] fun r => { r with f := 0, h := 0xC0, l := 0 }))
      (fun t => busRead t 0xC000 == 0x5A && t.clock == 16) = true := by decide +kernel

theorem test_bit_0_at_hl :
    stepIs (poke 0xC000 0xFE (codeWith [0xCB, 0x46] fun r => { r with f := 0x10, h := 0xC0, l := 0 }))
      (fun t => t.regs.f == 0xB0 && t.clock == 12) = true := by decide +kernel

theorem test_res_0_a : stepAF (codeWith [0xCB, 0x87] fun r => { r with a := 0xFF, f := 0xF0 }) 0xFE 0xF0 = true := by
  decide +kernel

theorem test_set_1_e : stepIs (codeWith [0xCB, 0xCB] fun r => { r with e := 0 }) (fun t => t.regs.e == 0x02) = true := by
  decide +kernel

/-! ### Jumps, calls and returns (95_test_vectors.md 2.6) -/

theorem test_jp_c_taken : stepIs (codeWith [0xDA, 0xFF, 0xFF] fun r => { r with f := 0x10 })
    (fun t => t.regs.pc == 0xFFFF && t.clock == 16) = true := by decide +kernel

theorem test_jr_nz_back : stepIs (codeWith [0x20, 0xFC] fun r => { r with f := 0 })
    (fun t => t.regs.pc == 0x00FE && t.clock == 12) = true := by decide +kernel

theorem test_jr_z_not_taken : stepIs (codeWith [0x28, 0x10] fun r => { r with f := 0 })
    (fun t => t.regs.pc == 0x0102 && t.clock == 8) = true := by decide +kernel

theorem test_call_nn :
    stepIs (codeWith [0xCD, 0x34, 0x12] fun r => { r with sp := 0xD000 })
      (fun t => t.regs.pc == 0x1234 && busRead t 0xCFFF == 0x01 && busRead t 0xCFFE == 0x03 && t.clock == 24) = true := by
  decide +kernel

theorem test_ret_nc_taken :
    stepIs (poke 0xCFFE 0x03 (poke 0xCFFF 0x01 (codeWith [0xD0] fun r => { r with sp := 0xCFFE, f := 0 })))
      (fun t => t.regs.pc == 0x0103 && t.regs.sp == 0xD000 && t.clock == 20) = true := by decide +kernel

theorem test_reti :
    stepIs (poke 0xCFFE 0x03 (poke 0xCFFF 0x01 (codeWith [0xD9] fun r => { r with sp := 0xCFFE })))
      (fun t => t.regs.pc == 0x0103 && t.ctl.ime) = true := by decide +kernel

theorem test_rst_28 :
    stepIs (codeWith [0xEF] fun r => { r with sp := 0xD000 })
      (fun t => t.regs.pc == 0x0028 && busRead t 0xCFFF == 0x01 && busRead t 0xCFFE == 0x01) = true := by decide +kernel

/-! ### System (95_test_vectors.md 2.7) -/

theorem test_halt_without_source_skips : stepIs (codeState [0x76]) (fun t => t.regs.pc == 0x0102 && !t.ctl.halt) = true := by
  decide +kernel

theorem test_halt_with_source : stepIs { codeState [0x76] with ie := 4 } (fun t => t.regs.pc == 0x0101 && t.ctl.halt) = true := by
  decide +kernel

theorem test_stop : stepIs (codeState [0x10]) (fun t => t.regs.pc == 0x0101 && t.ctl.stop && t.ctl.status == .stopExecuted)
    = true := by decide +kernel

theorem test_undefined_opcode :
    stepIs (codeState [0xD3]) (fun t => t.regs.pc == 0x0101 && t.ctl.status == .undefinedOpcode 0xD3 0x0100) = true := by
  decide +kernel

theorem test_terminal_has_no_step :
    step { State.reset with ctl := { State.reset.ctl with status := .stopExecuted } } = .fault (.terminal .stopExecuted) := rfl

theorem test_ei_at_once : stepIs (codeState [0xFB]) (fun t => t.ctl.ime && t.clock == 4) = true := by decide +kernel

/-! ### Interrupts (95_test_vectors.md 3) -/

/-- The reset state with `NOP` at `PC` and the interrupt state given. -/
def interruptState (sp : Word) (ime halt : Bool) (ie irq : BitVec 5) : State :=
  { codeWith [0x00] (fun r => { r with sp := sp }) with
    ctl := { State.reset.ctl with ime := ime, halt := halt }, ie := ie, irq := irq }

/-- I1 (S5) at `PC = 0x0100`. -/
theorem test_interrupt_lowest_first :
    stepIs (interruptState 0xD000 true false 0x1F 0x1F)
      (fun t => t.regs.pc == 0x0040 && t.irq == 0x1E && !t.ctl.ime && busRead t 0xCFFF == 0x01 && t.clock == 8) = true := by
  decide +kernel

/-- I2. -/
theorem test_interrupt_timer :
    stepIs (interruptState 0xD000 true false 0x14 0x1C) (fun t => t.regs.pc == 0x0050 && t.irq == 0x1A) = true := by
  decide +kernel

/-- I6: the push wraps and its low byte lands in `IE`. -/
theorem test_interrupt_push_wraps :
    stepIs (interruptState 0x0001 true false 0x1F 0x08) (fun t => t.regs.pc == 0x0058 && t.regs.sp == 0xFFFF && t.ie == 0)
      = true := by decide +kernel

/-- I9: an unenabled request does not wake. -/
theorem test_halted_idles :
    stepIs (interruptState 0xFFFE true true 0x04 0x01) (fun t => t.ctl.halt && t.regs.pc == 0x0100 && t.irq == 0x03) = true := by
  decide +kernel

/-- I8 with `NOP`: `halt` is cleared and the instruction runs in the same step. -/
theorem test_halted_wakes_without_entry :
    stepIs (interruptState 0xFFFE false true 0x04 0x04) (fun t => !t.ctl.halt && t.regs.pc == 0x0101 && t.irq == 0x06) = true := by
  decide +kernel

/-! ### Devices (95_test_vectors.md 4) -/

/-- 4.1: `TIMA = FF`, `TMA = 00`, `TAC = 05`: the overflow of tick 16 reloads and raises request 2. -/
theorem test_timer_overflow :
    (let t := tick { State.reset with clock := 15, timer := { div := 0, tima := 0xFF, tma := 0, tac := 5 } };
      t.timer.tima = 0 ∧ t.irq.getLsbD 2 = true) := by decide +kernel

/-- 4.1: `DIV` counts in tick 256. -/
theorem test_div_counts : (tick { State.reset with clock := 255 }).timer.div = 1 ∧
    (tick { State.reset with clock := 254 }).timer.div = 0 := by decide +kernel

/-- 4.2: after one tick `OAM[0]` is copied, after four `OAM[0..3]`. -/
theorem test_dma_copies :
    (let s := busWrite (poke 0xC000 0x01 (poke 0xC003 0x04 State.reset)) 0xFF46 0xC0;
      busRead s 0xFF46 = 0xC0 ∧ busRead (tick s) 0xFE00 = 0x01 ∧ busRead (cycle s) 0xFE03 = 0x04 ∧ (cycle s).dma.index = 4) := by
  decide +kernel

/-- 4.3: A and Right pressed. -/
theorem test_joypad :
    (let s := updatePad { Pad.released with a := true, right := true } State.reset;
      busRead (busWrite s 0xFF00 0x10) 0xFF00 = 0x1E ∧ busRead (busWrite s 0xFF00 0x20) 0xFF00 = 0x2E ∧
        busRead (busWrite s 0xFF00 0x00) 0xFF00 = 0x0E ∧ busRead (busWrite s 0xFF00 0x30) 0xFF00 = 0x3F ∧ s.irq = 0x10) := by
  decide +kernel

/-- 4.4, S4: the boot ROM answers until a nonzero value is written to `0xFF50`. -/
theorem test_boot_overlay :
    (let s := { State.reset with
        bootMapped := true
        params := { Params.default with
          bootRom := some (Memory.ofBytes .bootRom [0x31]), cartRom := Memory.ofBytes .cartRom [0xAA], useBootRom := true } };
      busRead s 0x0000 = 0x31 ∧ busRead (busWrite s 0xFF50 0x00) 0x0000 = 0x31 ∧
        busRead (busWrite s 0xFF50 0x01) 0x0000 = 0xAA) := by decide +kernel

/-- 4.4: masks of `STAT` and `TAC`. -/
theorem test_register_masks :
    busRead (busWrite State.reset 0xFF41 0xFF) 0xFF41 = 0x78 ∧ busRead (busWrite State.reset 0xFF07 0xFF) 0xFF07 = 0x07 ∧
      busRead (busWrite State.reset 0xFF44 0xFF) 0xFF44 = 0x00 := by decide +kernel

/-- R38: `OAM` is plain storage to the bus. -/
theorem test_oam_reads_back : busRead (poke 0xFE9F 0x5A State.reset) 0xFE9F = 0x5A := by decide

/-- An MBC1 machine whose banks 1 and 33 begin with their numbers. -/
def mbcState : State :=
  { State.reset with params := { Params.default with cartKind := .mbc1, cartRom := [(0x4000, 1), (0x84000, 33)] } }

/-- 4.5, S3. -/
theorem test_mbc_bank_quirk :
    busRead (busWrite mbcState 0x2000 0x00) 0x4000 = 1 ∧ busRead (busWrite mbcState 0x2000 0x01) 0x4000 = 1 ∧
      busRead (busWrite mbcState 0x2000 0x20) 0x4000 = 33 ∧ busRead (busWrite mbcState 0x2000 0x40) 0x4000 = 0xFF := by
  decide +kernel

/-- 4.5: external RAM answers while it is enabled. -/
theorem test_mbc_ram :
    (let s := busWrite (busWrite mbcState 0x0000 0x0A) 0xA000 0x12;
      busRead mbcState 0xA000 = 0xFF ∧ busRead s 0xA000 = 0x12 ∧ busRead (busWrite s 0x0000 0x0B) 0xA000 = 0xFF) := by
  decide +kernel

/-- The reset state with `ppu_clock` and the line of it, the LCD on, and the tiles of 4.7. -/
def pictureState (clock lx : Nat) (lcdc : Byte) : State :=
  let s := poke 0x8040 0xFF (poke 0x8041 0xFF (poke 0x8020 0xFF State.reset))
  { s with
    ppu := { s.ppu with
      lcdc := lcdc, ppuClock := clock, ly := BitVec.ofNat 8 (clock / 456), lx := lx, bgp := 0xE4, obp0 := 0xE4, obp1 := 0x1B,
      mode := modeAfter ((clock + lastTick) % ticksPerFrame) } }

/-- 4.6: line 144 begins with V-blank and both requests; the frame ends at tick 70223. -/
theorem test_vblank_and_frame_end :
    (let s := tick (pictureState 65664 160 0x80);
      s.ppu.mode = .vblank ∧ s.irq = 0x03) ∧
    (let s := tick (pictureState 70223 160 0x80);
      s.ppu.ppuClock = 0 ∧ s.ppu.ly = 0 ∧ s.irq = 0x00) := by decide +kernel

/-- 4.7 row B: equal `x`, the lower OAM index first; row A: the lower `x` first. -/
theorem test_sprite_order :
    (let s := poke 0xFE00 0x10 (poke 0xFE01 0x08 (poke 0xFE02 0x02 (poke 0xFE04 0x10 (poke 0xFE05 0x08 (poke 0xFE06 0x04
        (pictureState 0 0 0x93))))));
      (tick s).ppu.sprites.map (fun sp => sp.tile) = [0x02, 0x04] ∧
        (tick (poke 0xFE01 0x0C s)).ppu.sprites.map (fun sp => sp.tile) = [0x04, 0x02]) := by decide +kernel

/-- 4.7 row C: the winner has the priority bit and the background is not 0, so the background shows; row C2: it is 0. -/
theorem test_sprite_priority :
    (let front : Sprite := { x := 0, y := 0, tile := 2, attr := 0x80, pix := #v[1, 1, 1, 1, 1, 1, 1, 1] };
      let s := { pictureState 80 0 0x93 with ppu := { (pictureState 80 0 0x93).ppu with sprites := [front] } };
      pixelAt (tick (poke 0x9800 0x04 s)).ppu.fb 0 = 0xFF204631 ∧ pixelAt (tick s).ppu.fb 0 = 0xFFAEC440) := by
  decide +kernel

/-- 4.7 row I: signed tile numbers. -/
theorem test_signed_tile_data :
    (let s := poke 0x9800 0x80 (poke 0x8800 0xFF (pictureState 80 0 0x81));
      pixelAt (tick s).ppu.fb 0 = 0xFFAEC440) := by decide +kernel

/-- 4.7 row H: the window begins at column `WX - 7`. -/
theorem test_window :
    (let s := poke 0x9C00 0x04 (pictureState 84 4 0xF1);
      let t := { s with ppu := { s.ppu with wx := 0x0B } }
      pixelAt (tick t).ppu.fb 4 = 0xFF204631 ∧
        pixelAt (tick { t with ppu := { t.ppu with wx := 0x0C } }).ppu.fb 4 = 0xFFD7E894) := by decide +kernel

/-- 4.7 row M: with the LCD off a draw tick counts and draws nothing. -/
theorem test_lcd_off_draws_nothing :
    (let t := tick (pictureState 80 0 0x13);
      t.ppu.fb = [] ∧ t.ppu.lx = 1 ∧ t.ppu.mode = .draw) := by decide +kernel

/-! ### Reset (10_state.md R51, R52) -/

theorem test_reset_registers :
    State.reset.regs = { a := 0x01, f := 0xB0, b := 0x00, c := 0x13, d := 0x00, e := 0xD8, h := 0x01, l := 0x4D, sp := 0xFFFE,
                         pc := 0x0100 } := by decide

theorem test_construct_without_image_refused :
    State.construct { Params.default with useBootRom := true } = .refused .bootRomAbsent := rfl

/-! ### Witnesses: values that meet the hypotheses of the statements -/

/-- The bytes that three fetches read from reset with a word placed. -/
theorem witness_fetched_bytes :
    fetchedBytes (wake (State.reset.withFetchWord 16 0xCB7C)) = [0xCB, 0x7C, 0x00] := by decide +kernel

theorem witness_DecodeAfterEncode : WellFormed .nop ∧ WellFormed (.jpNn 0xFFFF) ∧ WellFormed .set7A := by decide

theorem witness_EncodeAfterDecode : WellFormed (.jpNn 0x0150) ∧ decode [0xC3, 0x50, 0x01, 0xFF] = .ok (.jpNn 0x0150, [0xFF]) :=
  ⟨by decide, rfl⟩

/-- A running machine, and a byte for each of the three outcomes. -/
theorem witness_UndefinedBytesExactlyEleven :
    State.reset.ctl.status = .running ∧ (0xD3 : Byte) ∈ undefinedBytes ∧ (0xFD : Byte) ∈ undefinedBytes ∧
      (0x10 : Byte) ∉ undefinedBytes ∧ (0x00 : Byte) ∉ undefinedBytes := by decide

theorem witness_StepRunsDecodedInstruction :
    (let s := State.reset.withFetchWord 16 0xCB7C;
      s.ctl.status = .running ∧ (wake s).ctl.halt = false ∧ (s.ctl.ime && interruptPending s) = false ∧
        decode (fetchedBytes (wake s)) = .ok (.bit7H, [0x00])) :=
  ⟨rfl, rfl, rfl, by rw [witness_fetched_bytes]; rfl⟩

/-- A state in each terminal status, and a running one. -/
theorem witness_StepExactlyWhileRunning :
    State.reset.ctl.status = .running ∧
      ({ State.reset with ctl := { State.reset.ctl with status := .undefinedOpcode 0xD3 0x0100 } } : State).ctl.status ≠ .running := by
  decide

/-- Halted with nothing pending, and with a request pending; `IME` plays no part. -/
theorem witness_HaltIdlesUntilRequest :
    (interruptState 0xFFFE true true 0x04 0x01).ctl.status = .running ∧ (interruptState 0xFFFE true true 0x04 0x01).ctl.halt = true ∧
      interruptPending (interruptState 0xFFFE true true 0x04 0x01) = false ∧
      interruptPending (interruptState 0xFFFE false true 0x10 0x10) = true := by decide +kernel

theorem witness_InterruptEntryEffect :
    (let s := interruptState 0xD000 true true 0x1F 0x10;
      s.ctl.status = .running ∧ s.ctl.ime = true ∧ interruptPending s = true) := by decide +kernel

/-- The least source and the greatest, with a stack that does not overwrite `IRQ`. -/
theorem witness_LowestPendingFirst :
    (let s := interruptState 0xD000 true false 0x1F 0x1F;
      s.ctl.status = .running ∧ s.ctl.ime = true ∧ (pendingInterrupts s).getLsbD 0 = true ∧ s.regs.sp - 1 ≠ 0xFF0F ∧
        s.regs.sp - 2 ≠ 0xFF0F ∧ s.irq.getLsbD 4 = true) ∧
    (let s := interruptState 0xD000 true false 0x1F 0x10;
      (pendingInterrupts s).getLsbD 4 = true ∧ ∀ m, m < 4 → (pendingInterrupts s).getLsbD m = false) := by decide +kernel

/-- Each of the instructions that change the control state answers a next state. -/
theorem witness_ControlStateChanges :
    WellFormed .ei ∧ WellFormed .reti ∧ WellFormed .di ∧ WellFormed .halt ∧ WellFormed .stop ∧ WellFormed .undefFD ∧
      ∀ i ∈ [Instr.ei, .reti, .di, .halt, .stop, .undefFD], ∃ t, exec i { State.reset with ie := 1 } = .next t := by
  refine ⟨by decide, by decide, by decide, by decide, by decide, by decide, ?_⟩
  simp only [List.mem_cons, List.not_mem_nil, or_false, forall_eq_or_imp, forall_eq]
  exact ⟨⟨_, rfl⟩, ⟨_, rfl⟩, ⟨_, rfl⟩, ⟨_, rfl⟩, ⟨_, rfl⟩, ⟨_, rfl⟩⟩

/-- Parameters of each construction: with the boot ROM and without. -/
def bootParams : Params := { Params.default with useBootRom := true, bootRom := some [(0, 0x31)] }

theorem witness_ResetMeetsInvariants :
    Params.Ok bootParams ∧ (∃ s, State.construct bootParams = .next s) ∧ Params.Ok Params.default ∧
      ∃ s, State.construct Params.default = .next s :=
  ⟨⟨rfl, fun _ h => by cases h; rfl⟩, ⟨_, rfl⟩, ⟨rfl, nofun⟩, ⟨_, rfl⟩⟩

theorem next_of_stepIs {s : State} {p : State → Bool} (h : stepIs s p = true) : ∃ t, step s = .next t := by
  unfold stepIs at h
  split at h
  · exact ⟨_, by assumption⟩
  · cases h

/-- A state of the middle of a frame that meets every invariant and steps. -/
theorem witness_StepKeepsInvariants : ∃ s t : State, s.Inv ∧ 0 < s.ppu.ppuClock ∧ step s = .next t := by
  obtain ⟨t, ht⟩ := next_of_stepIs (s := pictureState 1000 8 0x93) (p := fun _ => true) (by decide +kernel)
  refine ⟨pictureState 1000 8 0x93, t, ⟨?_, ?_, ?_, ?_, ?_, ?_, ?_, ?_, ?_, ?_, ?_, ?_, ?_, ?_⟩, by decide, ht⟩
  · exact (by decide : State.reset.regs.f &&& 0x0F = 0)
  · exact rfl
  · intro h; cases h
  · exact ⟨Nat.zero_le _, nofun⟩
  · exact (by decide : 1000 < 70224)
  · exact (by decide : (2 : Byte).toNat = 1000 / 456)
  · exact .inl (by decide +kernel)
  · exact ⟨by decide, fun _ _ => by decide⟩
  · exact Nat.zero_le _
  · exact rfl
  · exact ⟨by decide +kernel, rfl, rfl, rfl, rfl⟩
  · exact (by decide : (1 : Byte) &&& 0x1F ≠ 0)
  · intro h; cases h
  · exact ⟨rfl, nofun⟩

theorem witness_BootRomNeverReturns : (∃ t, step State.reset = .next t) ∧ State.reset.bootMapped = false := ⟨⟨_, rfl⟩, rfl⟩

theorem witness_ClockSeenModulo1024 : ∃ t, step State.reset = .next t := ⟨_, rfl⟩

/-- A conditional call, the longest instruction, with its condition failing and holding. -/
theorem witness_MachineCyclesMatchTable :
    WellFormed (.callZNn 0x1234) ∧ (∃ t, exec (.callZNn 0x1234) State.reset = .next t) ∧
      (Instr.callZNn 0x1234).machineCycles State.reset = 6 ∧ (Instr.callNZNn 0x1234).machineCycles State.reset = 3 :=
  ⟨by decide, ⟨_, rfl⟩, rfl, rfl⟩

theorem witness_SteppingLoadsAndStores :
    ((Instr.ldAtHLIncA = .ldAtHLIncA ∧ (1 : Int) = 1) ∧ (Instr.ldAtHLDecA = .ldAtHLDecA ∧ (-1 : Int) = -1)) ∧
      (Instr.ldAAtHLInc = .ldAAtHLInc ∧ Instr.ldAAtHLDec = .ldAAtHLDec) := by decide

/-- `ADD` with no carry in; `ADC` with the carry flag set, as it is after reset, and clear. -/
theorem witness_AdditionResults :
    (AluOp.add = .add ∧ 0 = 0) ∧ 1 = (if State.reset.regs.f.getLsbD 4 then 1 else 0) ∧
      0 = (if (codeWith [] fun r => { r with f := 0 }).regs.f.getLsbD 4 then 1 else 0) := by decide +kernel

theorem witness_SubtractionResults :
    ((AluOp.sub = .sub ∨ AluOp.sub = .cp) ∧ 0 = 0) ∧ ((AluOp.cp = .sub ∨ AluOp.cp = .cp) ∧ 0 = 0) ∧
      1 = (if State.reset.regs.f.getLsbD 4 then 1 else 0) := by decide +kernel

/-- The greatest operands and the least. -/
theorem witness_DecimalAdditionAdjusts :
    (let s := codeWith [] fun r => { r with a := 0x99, b := 0x99 };
      s.regs.a = packedDecimal 99 ∧ s.regs.b = packedDecimal 99 ∧ ∃ t u, exec .addAB s = .next t ∧ exec .daa t = .next u) ∧
      (0 : Byte) = packedDecimal 0 :=
  ⟨⟨by decide +kernel, by decide +kernel, _, _, rfl, rfl⟩, by decide⟩

theorem witness_PairArithmetic :
    ∀ p : Pair, (incPairInstr p = incPairInstr p ∧ (1 : Int) = 1) ∧ (decPairInstr p = decPairInstr p ∧ (-1 : Int) = -1) :=
  fun _ => ⟨⟨rfl, rfl⟩, rfl, rfl⟩

theorem witness_AccumulatorRotates :
    (Instr.rlca, RotOp.rlc) ∈ [(Instr.rlca, RotOp.rlc), (.rrca, .rrc), (.rla, .rl), (.rra, .rr)] ∧
      (Instr.rra, RotOp.rr) ∈ [(Instr.rlca, RotOp.rlc), (.rrca, .rrc), (.rla, .rl), (.rra, .rr)] := by decide

/-- After reset `F = 0xB0`, so `Z` and `C` hold and their opposites fail. -/
theorem witness_JumpTargets : State.reset.regs.f.getLsbD 7 = true ∧ State.reset.regs.f.getLsbD 4 = true := by decide

theorem witness_CallsPushReturnAddress :
    condHolds .z State.reset = true ∧ condHolds .c State.reset = true ∧ condHolds .nz State.reset = false ∧
      condHolds .nc State.reset = false := by decide

theorem witness_ReturnsPopAddress : condHolds .c State.reset = true ∧ condHolds .nz State.reset = false := by decide

/-- `DI` with a request pending, in a running machine. -/
theorem witness_DiMasksAtOnce :
    ∃ t, exec .di (interruptState 0xD000 true false 0x1F 0x1F) = .next t ∧ t.ctl.status = .running ∧ t.ctl.halt = false :=
  ⟨_, rfl, rfl, rfl⟩

/-- `EI` with a request pending; `HALT` with the least and with the greatest source enabled, and with none. -/
theorem witness_NopEnableAndHalt :
    (∃ t, exec .ei (interruptState 0xD000 false false 0x1F 0x1F) = .next t ∧ t.ctl.status = .running ∧ interruptPending t = true) ∧
      (∃ n, n < 5 ∧ (0x01 : BitVec 5).getLsbD n = true) ∧ (∃ n, n < 5 ∧ (0x10 : BitVec 5).getLsbD n = true) ∧
      ∀ n, n < 5 → State.reset.ie.getLsbD n = false :=
  ⟨⟨_, rfl, rfl, by decide⟩, ⟨0, by decide⟩, ⟨4, by decide⟩, by decide⟩

theorem witness_TerminalInstructions :
    (Instr.undefD3, (0xD3 : Byte)) ∈ [(Instr.undefD3, (0xD3 : Byte)), (.undefFD, 0xFD)] ∧
      ∃ t, exec .undefFD State.reset = .next t := ⟨by decide, ⟨_, rfl⟩⟩

/-- Bank 0: the first and the last address of each range, with the boot ROM mapped too. -/
theorem witness_BankZeroCartridge :
    State.reset.params.cartKind = .rom0 ∧ State.reset.params.cartRom = Memory.ofBytes .cartRom [] ∧
      (0x0000 : Word).toNat < 0x8000 ∧ (0x7FFF : Word).toNat < 0x8000 ∧ (State.reset.bootMapped = true → 0x100 ≤ (0 : Word).toNat) ∧
      0x100 ≤ (0x0100 : Word).toNat ∧ 0xA000 ≤ (0xA000 : Word).toNat ∧ (0xBFFF : Word).toNat < 0xC000 := by decide

/-- An MBC1 machine with a loaded image: the first and the last address of each range. -/
theorem witness_BankControllerRegisters :
    (let s := { mbcState with params := { mbcState.params with cartRom := Memory.ofBytes .cartRom [0xAA, 0xBB] } };
      s.params.cartKind = .mbc1 ∧ s.params.cartRom = Memory.ofBytes .cartRom [0xAA, 0xBB] ∧
        (s.bootMapped = true → 0x100 ≤ (0x0000 : Word).toNat)) ∧
      0x2000 ≤ (0x2000 : Word).toNat ∧ (0x3FFF : Word).toNat < 0x4000 ∧ (0x0000 : Word).toNat < 0x2000 ∧
      (0x1FFF : Word).toNat < 0x2000 ∧ ((0x20 : Byte), 33) ∈ [((0x00 : Byte), 1), (0x01, 1), (0x20, 33)] := by decide

theorem witness_BankControllerWindows :
    (let s := { mbcState with params := { mbcState.params with cartRom := Memory.ofBytes .cartRom [0xAA, 0xBB] } };
      s.params.cartKind = .mbc1 ∧ s.mems.Ok ∧ s.params.cartRom = Memory.ofBytes .cartRom [0xAA, 0xBB] ∧
        (s.bootMapped = true → 0x100 ≤ (0 : Word).toNat) ∧ s.mbc.ramEnable = false ∧
        (busWrite s 0x0000 0x0A).mbc.ramEnable = true) ∧
      (0x0000 : Word).toNat < 0x4000 ∧ (0x3FFF : Word).toNat < 0x4000 ∧ 0x4000 ≤ (0x4000 : Word).toNat ∧
      (0x7FFF : Word).toNat < 0x8000 ∧ 0xA000 ≤ (0xA000 : Word).toNat ∧ (0xBFFF : Word).toNat < 0xC000 :=
  ⟨⟨rfl, ⟨rfl, rfl, rfl, rfl, rfl⟩, rfl, nofun, rfl, rfl⟩, by decide⟩

/-- The ends of work RAM, of its echo, and of the part without one. -/
theorem witness_WorkRamEcho :
    0xC000 ≤ (0xC000 : Word).toNat ∧ (0xFDFF : Word).toNat < 0xFE00 ∧ 0x1DFF < 0x1E00 ∧
      deviceAt State.reset.bootMapped 0xDE00 = .wram 0x1E00 ∧ deviceAt State.reset.bootMapped 0xDFFF = .wram 0x1FFF := by
  decide +kernel

theorem witness_UnmappedSpace :
    (0xFEA0 ≤ (0xFEA0 : Word).toNat ∧ (0xFEFF : Word).toNat ≤ 0xFEFF) ∧ (0xFF10 ≤ (0xFF10 : Word).toNat ∧ (0xFF3F : Word).toNat ≤ 0xFF3F) ∧
      (0xFF4C ≤ (0xFF4C : Word).toNat ∧ (0xFF7F : Word).toNat ≤ 0xFF7F) ∧ (0xFF4C : Word) ≠ 0xFF50 := by decide

theorem witness_BootRomOverlay :
    (let s := State.initial bootParams;
      s.bootMapped = true ∧ s.params.bootRom = some (Memory.ofBytes .bootRom [0x31])) ∧
      (0x0000 : Word).toNat < 0x100 ∧ (0x00FF : Word).toNat < 0x100 ∧ (0x01 : Byte) ≠ 0 ∧ (0xFF : Byte) ≠ 0 := by decide

/-- The ends of `VRAM`, of work RAM with its echo, of `HRAM`, and of `OAM`. -/
theorem witness_RamReadsBackWrites :
    State.reset.mems.Ok ∧ plainRam 0x8000 = true ∧ plainRam 0x9FFF = true ∧ plainRam 0xC000 = true ∧ plainRam 0xFDFF = true ∧
      plainRam 0xFF80 = true ∧ plainRam 0xFFFE = true ∧
      (0xFE00 ≤ (0xFE00 : Word).toNat ∧ (0xFE9F : Word).toNat < 0xFEA0) ∧ 0x8000 ≤ (0x8000 : Word).toNat ∧
      (0x9FFF : Word).toNat < 0xA000 := ⟨⟨rfl, rfl, rfl, rfl, rfl⟩, by decide⟩

/-- The three cases of `TIMA`: it overflows, it counts, it does not count; and a stopped timer. -/
theorem witness_TimerTicks :
    (let s := { State.reset with clock := 15, timer := { div := 0, tima := 0xFF, tma := 0, tac := 5 } };
      4 ≤ s.timer.tac.toNat ∧ (s.clock + 1) % (4 * 4 ^ (s.timer.tac.toNat % 4)) = 0 ∧ s.timer.tima = 0xFF) ∧
    (let s := { State.reset with clock := 1023, timer := { div := 0, tima := 0xFE, tma := 0, tac := 4 } };
      4 ≤ s.timer.tac.toNat ∧ (s.clock + 1) % 1024 = 0 ∧ s.timer.tima ≠ 0xFF) ∧
    ¬(4 ≤ State.reset.timer.tac.toNat ∧ (State.reset.clock + 1) % 1024 = 0) := by decide

theorem witness_DmaCopiesPage : State.reset.mems.Ok ∧ (0x00 : Byte) ≠ 0xFF ∧ (0xFE : Byte) ≠ 0xFF :=
  ⟨⟨rfl, rfl, rfl, rfl, rfl⟩, by decide⟩

/-- The first and the last tick of a frame. -/
theorem witness_FrameTiming :
    (pictureState 0 0 0x80).ppu.ClockOk ∧ (pictureState 0 0 0x80).ppu.LineOk ∧ (pictureState 70223 160 0x80).ppu.ClockOk ∧
      (pictureState 70223 160 0x80).ppu.LineOk :=
  ⟨(by decide : 0 < 70224), rfl, (by decide : 70223 < 70224), rfl⟩

theorem witness_PictureRequestsAndLcdOff : State.reset.ppu.lcdc.getLsbD 7 = false := by decide

/-- The first and the last pixel of the picture, and the first tick of the horizontal blank. -/
theorem witness_TickDrawsOnePixel :
    (let p := (pictureState 80 0 0x80).ppu;
      frameBufferWf p.fb = true ∧ p.ClockOk ∧ p.LineOk ∧ p.ColumnOk ∧ p.ppuClock < 65664 ∧ 80 ≤ p.ppuClock % 456 ∧
        p.ppuClock % 456 < 240 ∧ p.lcdc.getLsbD 7 = true) ∧
    (let p := (pictureState 65447 159 0x80).ppu;
      p.ClockOk ∧ p.LineOk ∧ p.ColumnOk ∧ p.ppuClock % 456 = 239 ∧ p.ppuClock / 456 * 160 + 159 = 23039) ∧
    (let p := (pictureState 240 160 0x80).ppu;
      p.ClockOk ∧ p.LineOk ∧ p.ColumnOk ∧ ¬p.ppuClock % 456 < 240) :=
  ⟨⟨rfl, (by decide : 80 < 70224), rfl, ⟨by decide, fun _ _ => by decide⟩, by decide, by decide, by decide, by decide⟩,
    ⟨(by decide : 65447 < 70224), rfl, ⟨by decide, fun _ _ => by decide⟩, by decide, by decide⟩,
    ⟨(by decide : 240 < 70224), rfl, ⟨by decide, fun _ _ => by decide⟩, by decide⟩⟩

/-- A cached sprite with one opaque column, behind one without. -/
def oneDot (attr : Byte) : Sprite := { x := 0, y := 0, tile := 0, attr := attr, pix := #v[0, 0, 0, 0, 0, 0, 0, 3] }

theorem witness_SpritePriority :
    (let p := { Ppu.initial with lcdc := 0x82, sprites := [] ++ oneDot 0x80 :: [oneDot 0x00] };
      p.lcdc.getLsbD 1 = true ∧ opaqueAt 7 (oneDot 0x80) = true ∧ opaqueAt 8 (oneDot 0x80) = false ∧
        ∀ q ∈ p.sprites, opaqueAt 6 q = false) ∧ Ppu.initial.lcdc.getLsbD 1 = false ∧
    (let p := { Ppu.initial with lcdc := 0x20, wx := 7, wy := 3, ly := 3 };
      p.lcdc.getLsbD 5 = true ∧ p.wy.toNat ≤ p.ly.toNat ∧ p.wx.toNat ≤ 0 + 7 ∧ p.lcdc.getLsbD 0 = false) ∧
    ({ Ppu.initial with lcdc := 0x01 } : Ppu).lcdc.getLsbD 0 = true ∧
    ¬(Ppu.initial.lcdc.getLsbD 5 = true ∨ Ppu.initial.lcdc.getLsbD 0 = true) := by decide +kernel

/-- The first and the last visible line begin, and two ticks at which the cache stays: line 144, and the LCD off. -/
theorem witness_SpriteCacheSelection :
    (let p := (pictureState 0 0 0x93).ppu;
      p.ppuClock < 65664 ∧ p.ppuClock % 456 = 0 ∧ p.lcdc.getLsbD 7 = true) ∧
    (let p := (pictureState 65208 160 0x93).ppu;
      p.ppuClock < 65664 ∧ p.ppuClock % 456 = 0 ∧ p.lcdc.getLsbD 7 = true) ∧
    ¬(pictureState 65664 160 0x93).ppu.ppuClock < 65664 ∧ (pictureState 0 0 0x13).ppu.lcdc.getLsbD 7 = false := by
  decide +kernel

/-- A terminal status, for the call that returns at once. -/
theorem witness_StepFrame_terminal :
    ({ State.reset with ctl := { State.reset.ctl with status := .stopExecuted } } : State).ctl.status ≠ .running := by decide

theorem witness_StepFrameReachesVBlank : State.reset.Inv ∧ State.reset.ctl.status = .running :=
  ⟨⟨(by decide : State.reset.regs.f &&& 0x0F = 0), rfl, nofun, ⟨Nat.zero_le _, nofun⟩, (by decide : 0 < 70224), rfl, .inr ⟨rfl, rfl⟩,
    ⟨by decide, fun _ h => absurd rfl h⟩, Nat.zero_le _, rfl, ⟨rfl, rfl, rfl, rfl, rfl⟩, (by decide : (1 : Byte) &&& 0x1F ≠ 0),
    nofun, ⟨rfl, nofun⟩⟩, rfl⟩

theorem witness_ConstructionGivesResetState :
    bootParams.useBootRom = true ∧ bootParams.bootRom ≠ none ∧ Params.default.useBootRom = false ∧
      ({ bootParams with bootRom := none } : Params).bootRom = none ∧ plainRam 0x8000 = true ∧ plainRam 0xFFFE = true ∧
      0xFE00 ≤ (0xFE00 : Word).toNat ∧ (0xFE9F : Word).toNat < 0xFEA0 := by decide

end Sys2Proof.Tests
end

