-- ==== Sys2Proof/Proofs/Memory.lean ====
section
/-! PROOFS. The statements of 20_memory.md on the bank-0 cartridge (R80, R81), the MBC1 registers (R83, R84), work RAM and
its echo (R65), and unmapped space (R66). -/

namespace Sys2Proof.Proofs

open Sys2Proof.Machine

/-! ### A bus access is an access to the device behind the address -/

/-- What a read gives depends on the address only through the device behind it (R61). -/
theorem busRead_eq_deviceRead {s : State} {a : Word} {dev : Device} (h : deviceAt s.bootMapped a = dev) :
    busRead s a = deviceRead s dev := h ▸ rfl

/-- What a write does depends on the address only through the device behind it (R62). -/
theorem busWrite_eq_deviceWrite {s : State} {a : Word} {dev : Device} (h : deviceAt s.bootMapped a = dev) (v : Byte) :
    busWrite s a v = deviceWrite s dev v := h ▸ rfl

/-! ### Cartridge ROM -/

/-- The boot ROM does not answer, so the cartridge does. -/
theorem deviceAt_cartRom {s : State} {a : Word} (h : a.toNat < 0x8000) (hboot : s.bootMapped = true → 0x100 ≤ a.toNat) :
    deviceAt s.bootMapped a = .cartRom a.toNat := by
  refine deviceAt_rom _ a h ?_
  cases hb : s.bootMapped with
  | true => exact .inl (hboot hb)
  | false => exact .inr rfl

theorem busRead_cartRom {s : State} {a : Word} (h : a.toNat < 0x8000) (hboot : s.bootMapped = true → 0x100 ≤ a.toNat) :
    busRead s a = cartRomRead s a.toNat := busRead_eq_deviceRead (deviceAt_cartRom h hboot)

theorem busWrite_cartRom {s : State} {a : Word} (h : a.toNat < 0x8000) (hboot : s.bootMapped = true → 0x100 ≤ a.toNat)
    (v : Byte) : busWrite s a v = cartRomWrite s a.toNat v := busWrite_eq_deviceWrite (deviceAt_cartRom h hboot) v

/-- A cartridge read indexes the loaded image, and gives `0xFF` beyond it (R80, R82). -/
theorem cartRomRead_ofBytes {s : State} {image : List Byte} (h : s.params.cartRom = Memory.ofBytes .cartRom image) (k : Nat) :
    cartRomRead s k = image.getD (cartRomOffset s k) 0xFF := by
  rw [cartRomRead, h, Memory.read_ofBytes]
  rfl

theorem cartRomOffset_rom0 {s : State} (h : s.params.cartKind = .rom0) (k : Nat) : cartRomOffset s k = k := by
  simp [cartRomOffset, h]

theorem cartRomOffset_mbc1_switchable {s : State} (h : s.params.cartKind = .mbc1) {k : Nat} (hk : 0x4000 ≤ k) :
    cartRomOffset s k = s.mbc.bank.toNat * 0x4000 + (k - 0x4000) := by
  simp [cartRomOffset, h, Nat.not_lt.mpr hk]

theorem cartRomWrite_rom0 {s : State} (h : s.params.cartKind = .rom0) (k : Nat) (v : Byte) : cartRomWrite s k v = s := by
  simp [cartRomWrite, h]

theorem cartRomWrite_mbc1_ramEnable {s : State} (h : s.params.cartKind = .mbc1) {k : Nat} (hk : k < 0x2000) (v : Byte) :
    cartRomWrite s k v = { s with mbc := { s.mbc with ramEnable := decide (v &&& 0x0F = 0x0A) } } := by
  simp [cartRomWrite, h, hk]

theorem cartRomWrite_mbc1_bank {s : State} (h : s.params.cartKind = .mbc1) {k : Nat} (hk : 0x2000 ≤ k) (hk' : k < 0x4000)
    (v : Byte) : cartRomWrite s k v = { s with mbc := { s.mbc with bank := bankWritten v } } := by
  simp [cartRomWrite, h, hk', Nat.not_lt.mpr hk]

theorem cartRamEnabled_rom0 {s : State} (h : s.params.cartKind = .rom0) : cartRamEnabled s = false := by
  simp [cartRamEnabled, h]

/-! ### The bank-0 cartridge -/

/-- Every write below `0x8000` is ignored, whichever of boot ROM and cartridge takes it (R64, R81). -/
theorem busWrite_rom0_below {s : State} (hkind : s.params.cartKind = .rom0) {a : Word} (h : a.toNat < 0x8000) (v : Byte) :
    busWrite s a v = s := by
  by_cases hboot : s.bootMapped = true → 0x100 ≤ a.toNat
  · rw [busWrite_cartRom h hboot, cartRomWrite_rom0 hkind]
  · obtain ⟨hb, hlow⟩ := Classical.not_imp.mp hboot
    have hdev : deviceAt s.bootMapped a = .bootRom a.toNat := hb ▸ deviceAt_bootRom a (Nat.not_le.mp hlow)
    exact busWrite_eq_deviceWrite hdev v

/-- External RAM is absent: it reads `0xFF` and ignores writes (R80, R81). -/
theorem cartRam_rom0 {s : State} (hkind : s.params.cartKind = .rom0) {a : Word} (h : 0xA000 ≤ a.toNat) (h' : a.toNat < 0xC000)
    (v : Byte) : busRead s a = 0xFF ∧ busWrite s a v = s := by
  have hdev := deviceAt_cartRam s.bootMapped a h h'
  rw [busRead_eq_deviceRead hdev, busWrite_eq_deviceWrite hdev]
  simp [deviceRead, deviceWrite, cartRamEnabled_rom0 hkind]

/-- Settles O42, by the device behind the address: the cartridge, the boot ROM or external RAM. -/
theorem bankZeroCartridge : Obligations.BankZeroCartridge := by
  intro s image a v hkind himage
  refine ⟨fun h hboot => ?_, fun h h' => (cartRam_rom0 hkind h h' v).1, ?_⟩
  · rw [busRead_cartRom h hboot, cartRomRead_ofBytes himage, cartRomOffset_rom0 hkind]
  · rintro (h | ⟨h, h'⟩)
    · exact busWrite_rom0_below hkind h v
    · exact (cartRam_rom0 hkind h h' v).2

/-! ### The MBC1 registers -/

theorem and_0x0F_toNat (v : Byte) : (v &&& 0x0F).toNat = v.toNat % 16 := Nat.and_two_pow_sub_one_eq_mod v.toNat 4

theorem and_0x1F_toNat (v : Byte) : (v &&& 0x1F).toNat = v.toNat % 32 := Nat.and_two_pow_sub_one_eq_mod v.toNat 5

theorem and_0x0F_eq_0x0A_iff (v : Byte) : v &&& 0x0F = 0x0A ↔ v.toNat % 16 = 10 := by
  rw [← BitVec.toNat_inj, and_0x0F_toNat]
  rfl

theorem and_0x1F_eq_zero_iff (v : Byte) : v &&& 0x1F = 0 ↔ v.toNat % 32 = 0 := by
  rw [← BitVec.toNat_inj, and_0x1F_toNat]
  rfl

/-- Setting the clear bit 0 of a byte adds one. -/
theorem or_one_eq_ofNat_succ {v : Byte} (h : v.toNat % 2 = 0) : v ||| 0x01 = BitVec.ofNat 8 (v.toNat + 1) := by
  have hbit : v &&& 0x01 = 0 := BitVec.eq_of_toNat_eq ((Nat.and_two_pow_sub_one_eq_mod v.toNat 1).trans h)
  rw [← BitVec.add_eq_or_of_and_eq_zero v 0x01 hbit]
  exact BitVec.eq_of_toNat_eq (by simp)

/-- The bank register in numbers (R83). -/
theorem bankWritten_eq (v : Byte) : bankWritten v = if v.toNat % 32 = 0 then BitVec.ofNat 8 (v.toNat + 1) else v := by
  simp only [bankWritten, and_0x1F_eq_zero_iff]
  split
  · exact or_one_eq_ofNat_succ (by omega)
  · rfl

theorem busWrite_mbc1_bank {s : State} (hkind : s.params.cartKind = .mbc1) {a : Word} (h : 0x2000 ≤ a.toNat)
    (h' : a.toNat < 0x4000) (v : Byte) : busWrite s a v = { s with mbc := { s.mbc with bank := bankWritten v } } := by
  rw [busWrite_cartRom (by omega) (fun _ => by omega), cartRomWrite_mbc1_bank hkind h h']

/-- The first byte of the switchable half is the first byte of the bank in the register (R82). -/
theorem busRead_mbc1_switchable_start {s : State} (hkind : s.params.cartKind = .mbc1) {image : List Byte}
    (himage : s.params.cartRom = Memory.ofBytes .cartRom image) :
    busRead s 0x4000 = image.getD (s.mbc.bank.toNat * 0x4000) 0xFF := by
  have hstart : (0x4000 : Word).toNat = 0x4000 := by decide
  rw [busRead_cartRom (by decide) (fun _ => by decide), hstart, cartRomRead_ofBytes himage,
    cartRomOffset_mbc1_switchable hkind (Nat.le_refl _), Nat.sub_self, Nat.add_zero]

/-- The banks that the register holds after the three values of R83's example. -/
theorem bankWritten_toNat_of_mem {written : Byte} {bank : Nat}
    (h : (written, bank) ∈ [((0x00 : Byte), 1), (0x01, 1), (0x20, 33)]) : (bankWritten written).toNat = bank := by
  have all : ∀ p ∈ [((0x00 : Byte), 1), (0x01, 1), (0x20, 33)], (bankWritten p.1).toNat = p.2 := by decide
  exact all _ h

/-- Settles O43, by the two halves of the writable range; the banks read back through the switchable window. -/
theorem bankControllerRegisters : Obligations.BankControllerRegisters := by
  intro s a v hkind hboot
  refine ⟨fun h h' => ⟨?_, fun image written bank himage hmem => ?_⟩, fun h => ?_⟩
  · rw [busWrite_mbc1_bank hkind h h', bankWritten_eq]
  · have hread := busRead_mbc1_switchable_start (s := busWrite s a written) (by rwa [busWrite_params])
      (image := image) (by rwa [busWrite_params])
    rw [hread, busWrite_mbc1_bank hkind h h', bankWritten_toNat_of_mem hmem]
  · rw [busWrite_cartRom (by omega) hboot, cartRomWrite_mbc1_ramEnable hkind h]
    simp only [and_0x0F_eq_0x0A_iff]

/-! ### Work RAM and its echo -/

/-- `0xC000 + k` and `0xE000 + k` are one byte of `WRAM` (R65). -/
theorem deviceAt_echo (b : Bool) {k : Nat} (hk : k < 0x1E00) :
    deviceAt b (BitVec.ofNat 16 (0xC000 + k)) = .wram k ∧ deviceAt b (BitVec.ofNat 16 (0xE000 + k)) = .wram k := by
  have hbase : (BitVec.ofNat 16 (0xC000 + k)).toNat = 0xC000 + k := Nat.mod_eq_of_lt (by omega)
  have hecho : (BitVec.ofNat 16 (0xE000 + k)).toNat = 0xE000 + k := Nat.mod_eq_of_lt (by omega)
  rw [deviceAt_wram b _ (by omega) (by omega), deviceAt_wram b _ (by omega) (by omega), hbase, hecho]
  constructor <;> congr 1 <;> omega

/-- Settles O45, by the device table: an address and its echo show the same byte, and an offset tells its address. -/
theorem workRamEcho : Obligations.WorkRamEcho := by
  intro s
  refine ⟨deviceAt_wram s.bootMapped, fun k hk => ?_, fun a j hj hdev => ?_⟩
  · obtain ⟨hbase, hecho⟩ := deviceAt_echo s.bootMapped hk
    have hsame := hbase.trans hecho.symm
    exact ⟨busRead_eq_deviceRead hsame, busWrite_eq_deviceWrite hsame⟩
  · obtain ⟨hoffset, hlow, hhigh⟩ : j = a.toNat % 0x2000 ∧ 0xC000 ≤ a.toNat ∧ a.toNat < 0xFE00 := fits_of_deviceAt hdev
    omega

/-! ### Unmapped space -/

/-- An address without a device reads `0xFF` and drops writes (R66). -/
theorem unmapped_access {s : State} {a : Word} (h : deviceAt s.bootMapped a = .unmapped) (v : Byte) :
    busRead s a = 0xFF ∧ busWrite s a v = s := ⟨busRead_eq_deviceRead h, busWrite_eq_deviceWrite h v⟩

/-- Nothing answers in the three ranges of R66, but for `0xFF50`. -/
theorem deviceAt_unmappedSpace (b : Bool) {a : Word}
    (h : (0xFEA0 ≤ a.toNat ∧ a.toNat ≤ 0xFEFF) ∨ (0xFF10 ≤ a.toNat ∧ a.toNat ≤ 0xFF3F) ∨
      (0xFF4C ≤ a.toNat ∧ a.toNat ≤ 0xFF7F)) (hne : a ≠ 0xFF50) : deviceAt b a = .unmapped := by
  have hne' : a.toNat ≠ 0xFF50 := fun e => hne (BitVec.eq_of_toNat_eq e)
  rcases h with ⟨h, h'⟩ | ⟨h, h'⟩ | ⟨h, h'⟩
  · exact deviceAt_gap b a h (by omega)
  · exact deviceAt_unmapped b a (.inl ⟨h, h'⟩)
  · exact deviceAt_unmapped b a (.inr ⟨h, h', hne'⟩)

/-- Settles O46: `0xFF50` alone has a device, and that one reads `0xFF` too. -/
theorem unmappedSpace : Obligations.UnmappedSpace := by
  intro s a v h
  by_cases ha : a = 0xFF50
  · subst ha
    exact ⟨busRead_eq_deviceRead (deviceAt_bootUnmap s.bootMapped), fun hne => absurd rfl hne⟩
  · obtain ⟨hread, hwrite⟩ := unmapped_access (deviceAt_unmappedSpace s.bootMapped h ha) v
    exact ⟨hread, fun _ => hwrite⟩

end Sys2Proof.Proofs
end

section
/-! PROOFS. The statement of 42_alu8.md on the logic operations (R175, R176, R177), by one lemma on every form of `alu[y]`
(R170). -/

namespace Sys2Proof.Proofs

open Sys2Proof.Machine

/-! ### Every form of `alu[y]` -/

/-- The byte at `HL` is read before its machine cycle (R11), and that cycle changes neither `A` nor the flags. -/
theorem aluOperand_atHL (op : AluOp) (s : State) :
    aluOperand op .atHL s = setAF (aluResult op s.regs.a (busRead s (hlPair s)) s.flags.c) (cycle s) := by
  simp only [aluOperand, withOperand, withRead, State.flags, cycle_regs]

/-- Every form of `alu[y]` leaves in `A` and the flags what `aluResult` gives for its operand byte (R170). -/
theorem aluForms_aluResult (op : AluOp) (s : State) :
    AluForms op s fun i v k =>
      AccResult i s k (aluResult op s.regs.a v s.flags.c).1 (aluResult op s.regs.a v s.flags.c).2 := by
  refine ⟨fun r => accResult_of (k := 0) ?_, accResult_of (k := 1) ?_, fun n => accResult_of (k := 0) ?_⟩
  · exact exec_aluInstr s op (.reg r)
  · rw [exec_aluInstr, aluOperand_atHL]
    rfl
  · exact exec_aluNInstr s op n

/-! ### `AND`, `XOR` and `OR` -/

/-- The rows `y = 4, 5, 6` of R107 for `x = 2`. -/
theorem encode_logic_operand : ∀ k, k < 8 →
    encode (aluInstr .and (operandOf k)) = [BitVec.ofNat 8 (0xA0 + k)] ∧
      encode (aluInstr .xor (operandOf k)) = [BitVec.ofNat 8 (0xA8 + k)] ∧
      encode (aluInstr .or (operandOf k)) = [BitVec.ofNat 8 (0xB0 + k)] := by
  decide

/-- Settles O27, by the rows of R107 and the three logic cases of `aluResult`. -/
theorem logicResults : Obligations.LogicResults :=
  ⟨⟨encode_logic_operand, fun _ => ⟨rfl, rfl, rfl⟩⟩,
    fun s => ⟨aluForms_aluResult .and s, aluForms_aluResult .xor s, aluForms_aluResult .or s⟩⟩

end Sys2Proof.Proofs
end

section
/-! PROOFS. The statement of 46_system.md on `DI` (R264), by the branch of the CPU step that fetches (R290). -/

namespace Sys2Proof.Proofs

open Sys2Proof.Machine

/-! ### The step that fetches -/

/-- A CPU that is not halted has nothing to wake from (R291). -/
theorem wake_of_not_halted {s : State} (hhalt : s.ctl.halt = false) : wake s = s := by
  have hsame : setHalt false s = s := by rw [setHalt, ← hhalt]
  rw [wake, hsame, ite_self]

/-- A running, unhalted machine that enters no interrupt fetches and runs one instruction (R290). -/
theorem step_fetches {s : State} (hrun : s.ctl.status = .running) (hhalt : s.ctl.halt = false)
    (hentry : (s.ctl.ime && interruptPending s) = false) : step s = exec (fetchInstr s).1 (fetchInstr s).2 := by
  simp [step, hrun, wake_of_not_halted hhalt, hhalt, hentry]

/-! ### `DI` -/

theorem exec_di (s : State) : exec .di s = .next (setIme false s) := rfl

/-- Settles O38: `DI` is `setIme false`, and with `IME` clear a step enters no interrupt. -/
theorem diMasksAtOnce : Obligations.DiMasksAtOnce := by
  refine ⟨rfl, rfl, fun s => ⟨setIme false s, exec_di s, rfl, ?frame, fun hrun hhalt => ?next⟩⟩
  case frame => exact keepsMemory_of_cycles (n := 0) (agentsOf_setIme false (agentsOf_refl s))
  case next =>
    have hentry : ((setIme false s).ctl.ime && interruptPending (setIme false s)) = false := by
      rw [setIme_ctl_ime, Bool.false_and]
    exact step_fetches hrun hhalt hentry

end Sys2Proof.Proofs
end

section
/-! PROOFS. The statement of 60_exceptions.md on arbitration (R292), by the branch of the CPU step that enters an interrupt
(R293) and by what time and a store leave of the requests. -/

namespace Sys2Proof.Proofs

open Sys2Proof.Machine

/-! ### What a pending request survives -/

/-- `0xFF0F` is the one address whose store reaches `IRQ` (R53). -/
theorem busWrite_irq {s : State} {a : Word} (ha : a ≠ 0xFF0F) (v : Byte) : (busWrite s a v).irq = s.irq := by
  have fits := deviceAt_fits s.bootMapped a
  unfold busWrite
  generalize deviceAt s.bootMapped a = dev at fits
  cases dev with
  | io r =>
    cases r with
    | irq => exact absurd fits ha
    | _ => rfl
  | cartRom k => simp only [deviceWrite, cartRomWrite]; (repeat' split) <;> rfl
  | cartRam k => simp only [deviceWrite]; split <;> rfl
  | bootUnmap => simp only [deviceWrite]; split <;> rfl
  | _ => rfl

section
variable {s : State} {m : Nat} (hm : s.irq.getLsbD m = true)
include hm

/-- A tick only raises requests (R285). -/
theorem tick_keeps_request : (tick s).irq.getLsbD m = true := by
  rw [tick_irq]
  split <;> simp only [BitVec.getLsbD_or, hm, Bool.true_or]

theorem cycle_keeps_request : (cycle s).irq.getLsbD m = true :=
  tick_keeps_request (tick_keeps_request (tick_keeps_request (tick_keeps_request hm)))

theorem memWrite_keeps_request {a : Word} (ha : a ≠ 0xFF0F) (v : Byte) : (memWrite a v s).irq.getLsbD m = true :=
  cycle_keeps_request (by rwa [busWrite_irq ha])

theorem push16_keeps_request (hhi : s.regs.sp - 1 ≠ 0xFF0F) (hlo : s.regs.sp - 2 ≠ 0xFF0F) (v : Word) :
    (push16 v s).irq.getLsbD m = true := by
  rw [push16_eq, setSp_irq]
  exact memWrite_keeps_request (memWrite_keeps_request hm hhi _) hlo _

/-- The mask of an acknowledgement has one bit, that of its source (R293). -/
theorem acknowledge_keeps_request {n : Nat} (hn : m ≠ n) : (acknowledge n s).irq.getLsbD m = true := by
  have hlt : m < 5 := BitVec.lt_of_getLsbD hm
  have hbit : m < n ∨ ¬m - n = 0 := by omega
  simp [hm, hlt, hbit]

end

theorem cycles_keeps_request (k : Nat) {s : State} {m : Nat} (hm : s.irq.getLsbD m = true) :
    (cycles k s).irq.getLsbD m = true := by
  induction k generalizing s with
  | zero => exact hm
  | succ k ih => exact ih (cycle_keeps_request hm)

/-! ### Entry -/

/-- Arbitration gives the only source that is set and has none set below it (R292). -/
theorem lowestPending_eq {p : BitVec 5} {n : Nat} (hn : n < 5) (hset : p.getLsbD n = true)
    (hlow : ∀ m, m < n → p.getLsbD m = false) : lowestPending p = n := by
  have hcases : n = 0 ∨ n = 1 ∨ n = 2 ∨ n = 3 ∨ n = 4 := by omega
  rcases hcases with rfl | rfl | rfl | rfl | rfl <;>
    simp only [lowestPending, hset, hlow, Nat.reduceLT, if_true, Bool.false_eq_true, if_false]

/-- A set bit of `IRQ & IE` is a pending interrupt (R286). -/
theorem interruptPending_of_getLsbD {s : State} {n : Nat} (hset : (pendingInterrupts s).getLsbD n = true) :
    interruptPending s = true := by
  rw [interruptPending, bne_iff_ne]
  intro hzero
  simp [hzero] at hset

/-- With `IME` and an enabled request pending, the step wakes the CPU and enters the interrupt (R290, R291). -/
theorem step_enters {s : State} (hrun : s.ctl.status = .running) (hime : s.ctl.ime = true)
    (hpend : interruptPending s = true) : step s = .next (interruptEntry (setHalt false s)) := by
  have hpend' : interruptPending (setHalt false s) = true := hpend
  simp [step, hrun, wake, hpend, hpend', hime]

theorem interruptEntry_ctl (s : State) : (interruptEntry s).ctl = { s.ctl with ime := false } := by
  simp [interruptEntry_eq, push16_eq, setIme]

theorem interruptEntry_pc (s : State) :
    (interruptEntry s).regs.pc = interruptVector (lowestPending (pendingInterrupts s)) := by
  rw [interruptEntry_eq, setPc_regs_pc]

/-- Entry leaves the requests of the other sources pending, where its push does not store over `IRQ` (R293). -/
theorem interruptEntry_keeps_request {s : State} {m : Nat} (hm : s.irq.getLsbD m = true)
    (hother : m ≠ lowestPending (pendingInterrupts s)) (hhi : s.regs.sp - 1 ≠ 0xFF0F) (hlo : s.regs.sp - 2 ≠ 0xFF0F) :
    (interruptEntry s).irq.getLsbD m = true := by
  have hack : (setIme false (acknowledge (lowestPending (pendingInterrupts s)) s)).irq.getLsbD m = true :=
    acknowledge_keeps_request hm hother
  rw [interruptEntry_eq, setPc_irq]
  refine push16_keeps_request (cycles_keeps_request _ hack) ?_ ?_ _
  · rwa [cycles_regs]
  · rwa [cycles_regs]

/-- Settles O10: the step is `interruptEntry` with the source arbitration gives, and it leaves `IME` and `halt` clear, so
that the next step fetches. -/
theorem lowestPendingFirst : Obligations.LowestPendingFirst := by
  intro s n hrun hime hn hset hlow
  have hsource : lowestPending (pendingInterrupts (setHalt false s)) = n := lowestPending_eq hn hset hlow
  have hctl := interruptEntry_ctl (setHalt false s)
  refine ⟨interruptEntry (setHalt false s), step_enters hrun hime (interruptPending_of_getLsbD hset), ?vector, ?ime,
    fun hhi hlo m _ hne hm => ?others, ?next⟩
  case vector => rw [interruptEntry_pc, hsource, interruptVector]
  case ime => rw [hctl]
  case others =>
    have hne' : m ≠ lowestPending (pendingInterrupts (setHalt false s)) := hsource.symm ▸ hne
    exact interruptEntry_keeps_request hm hne' hhi hlo
  case next => exact step_fetches (by rw [hctl]; exact hrun) (by rw [hctl]; rfl) (by rw [hctl]; rfl)

end Sys2Proof.Proofs
end

section
/-! PROOFS. The statement of 61_timer_dma_joypad.md on the joypad select write (R340), by the device row of `0xFF00` (R53). -/

namespace Sys2Proof.Proofs

open Sys2Proof.Machine

theorem deviceAt_joyp (b : Bool) : deviceAt b 0xFF00 = .io .joyp := by
  have hrow : (0xFF00 : Word).toNat - 0xFF00 = 0 := by decide
  rw [deviceAt_page b 0xFF00 (by decide) (by decide), hrow]
  rfl

theorem busWrite_joyp (s : State) (v : Byte) : busWrite s 0xFF00 v = { s with joypad := joypadWrite s.joypad v } :=
  busWrite_eq_deviceWrite (deviceAt_joyp s.bootMapped) v

/-- A latch stored active low is set exactly when its bit of the byte is 0. -/
theorem not_getLsbD_iff (v : Byte) (i : Nat) : (!v.getLsbD i) = true ↔ v.toNat / 2 ^ i % 2 = 0 := by
  rw [← toNat_getLsbD]
  cases v.getLsbD i <;> decide

/-- Settles O50: the write stores `joypadWrite`, whose latches are bits 5 and 4 active low. -/
theorem joypadSelectWrite : Obligations.JoypadSelectWrite := by
  intro s v
  exact ⟨joypadWrite s.joypad v, busWrite_joyp s v, rfl, not_getLsbD_iff v 5, not_getLsbD_iff v 4⟩

end Sys2Proof.Proofs
end

section
/-! PROOFS. The statements of 30_encoding.md on the decoder and the encoder (R100 to R111), and the fetch that reads what the
decoder reads (R102). -/

namespace Sys2Proof.Proofs

open Sys2Proof.Machine

/-! ### Decoding an encoding -/

/-- A row with a word as its immediate, low byte first (R103), decodes to its own word. -/
theorem decode_word_row {op : Byte} {row : Word → Instr} (hformat : opcodeFormat op = .opN16)
    (hrow : ∀ b1 b2, decodePrimary op b1 b2 = row (mkWord b2 b1)) (nn : Word) (rest : List Byte) :
    decode ([op, loByte nn, hiByte nn] ++ rest) = .ok (row nn, rest) := by
  simp only [decode, List.cons_append, hformat, hrow, mkWord_hiByte_loByte, List.nil_append]

/-- Settles O2, by the rows of the map: a row without a word computes, and a word is put together again from its bytes. -/
theorem decodeAfterEncode : Obligations.DecodeAfterEncode := by
  intro i rest hwf
  cases i
  case prefixCB => exact absurd hwf (by decide)
  case ldBCNn nn | ldAtNnSP nn | ldDENn nn | ldHLNn nn | ldSPNn nn | jpNZNn nn | jpNn nn | callNZNn nn | jpZNn nn | callZNn nn
      | callNn nn | jpNCNn nn | callNCNn nn | jpCNn nn | callCNn nn | ldAtNnA nn | ldAAtNn nn =>
    exact decode_word_row rfl (fun _ _ => rfl) nn rest
  all_goals rfl

/-- Settles O1: each word is the encoding of its instruction. -/
theorem encodedWordsDecode : Obligations.EncodedWordsDecode := by
  have row (i : Instr) (hwf : WellFormed i) : decode (encode i ++ []) = .ok (i, []) := decodeAfterEncode i [] hwf
  exact ⟨row (.jpNn 0x0150) rfl, row .bit7H rfl, decodeAfterEncode .undefD3 [0x00] rfl, row .ldBC rfl, row (.ldAN 0x7F) rfl,
    row (.ldAtHLN 0x42) rfl, row (.ldAtNnSP 0xC000) rfl, row (.ldhAtNA 0x46) rfl, row .adcAE rfl, row (.xorN 0x0F) rfl,
    row .halt rfl, row .addHLDE rfl, row (.addSPE 0xFE) rfl, row .pushAF rfl, row .rla rfl, row .swapA rfl, row .set7AtHL rfl,
    row (.jrNZE 0xFC) rfl, row (.callCNn 0x2000) rfl, row .rst28 rfl⟩

/-! ### The rows of the map by the length of their immediate (R101, R107) -/

/-- The first bytes that a byte follows as an immediate. -/
def byteOpcodes : List Byte :=
  [0x06, 0x0E, 0x16, 0x18, 0x1E, 0x20, 0x26, 0x28, 0x2E, 0x30, 0x36, 0x38, 0x3E, 0xC6, 0xCE, 0xD6, 0xDE, 0xE0, 0xE6, 0xE8,
    0xEE, 0xF0, 0xF6, 0xF8, 0xFE]

/-- The first bytes that a word follows as an immediate. -/
def wordOpcodes : List Byte :=
  [0x01, 0x08, 0x11, 0x21, 0x31, 0xC2, 0xC3, 0xC4, 0xCA, 0xCC, 0xCD, 0xD2, 0xD4, 0xDA, 0xDC, 0xEA, 0xFA]

theorem mem_byteOpcodes : ∀ op, (opcodeFormat op).immediates = 1 → op ∈ byteOpcodes := by decide

theorem mem_wordOpcodes : ∀ op, opcodeFormat op = .opN16 → op ∈ wordOpcodes := by decide

theorem eq_of_format_cbOp : ∀ op, opcodeFormat op = .cbOp → op = 0xCB := by decide

theorem encode_row_op : ∀ op, opcodeFormat op = .op → encode (decodePrimary op 0 0) = [op] := by decide

theorem encode_decodeCB : ∀ op2, encode (decodeCB op2) = [0xCB, op2] := by decide

theorem encode_row_byte {op : Byte} (h : (opcodeFormat op).immediates = 1) (b1 : Byte) :
    encode (decodePrimary op b1 0) = [op, b1] := by
  have hop := mem_byteOpcodes op h
  unfold byteOpcodes at hop
  repeat (rcases hop with _ | ⟨_, hop⟩; · rfl)
  cases hop

theorem encode_row_word {op : Byte} (h : opcodeFormat op = .opN16) (b1 b2 : Byte) :
    encode (decodePrimary op b1 b2) = [op, b1, b2] := by
  have hop := mem_wordOpcodes op h
  have hbytes : encode (decodePrimary op b1 b2) = [op, loByte (mkWord b2 b1), hiByte (mkWord b2 b1)] := by
    unfold wordOpcodes at hop
    repeat (rcases hop with _ | ⟨_, hop⟩; · rfl)
    cases hop
  rwa [loByte_mkWord, hiByte_mkWord] at hbytes

/-- `prefixCB` is the one term that is no whole instruction (R266). -/
theorem wellFormed_of_encode_ne {i : Instr} (h : encode i ≠ [0xCB]) : WellFormed i := by
  have hne : i ≠ .prefixCB := fun e => h (e ▸ rfl)
  cases i
  case prefixCB => exact absurd rfl hne
  all_goals rfl

/-! ### What the decoder does in each format (R100, R101) -/

theorem decode_op {op : Byte} (h : opcodeFormat op = .op) (rest : List Byte) :
    decode (op :: rest) = .ok (decodePrimary op 0 0, rest) := by
  simp only [decode, h]

theorem decode_byte {op : Byte} (h : (opcodeFormat op).immediates = 1) (b1 : Byte) (rest : List Byte) :
    decode (op :: b1 :: rest) = .ok (decodePrimary op b1 0, rest) := by
  cases hf : opcodeFormat op <;> simp [hf, Format.immediates] at h <;> simp only [decode, hf]

theorem decode_word {op : Byte} (h : opcodeFormat op = .opN16) (b1 b2 : Byte) (rest : List Byte) :
    decode (op :: b1 :: b2 :: rest) = .ok (decodePrimary op b1 b2, rest) := by
  simp only [decode, h]

theorem decode_cb {op : Byte} (h : opcodeFormat op = .cbOp) (op2 : Byte) (rest : List Byte) :
    decode (op :: op2 :: rest) = .ok (decodeCB op2, rest) := by
  simp only [decode, h]

/-- The four kinds of format. -/
theorem format_cases (f : Format) : f = .op ∨ f.immediates = 1 ∨ f = .opN16 ∨ f = .cbOp := by
  cases f <;> decide

/-- Settles O3, by the format of the first byte: each kind of row encodes to the bytes that it was read from. -/
theorem encodeAfterDecode : Obligations.EncodeAfterDecode := by
  intro bytes rest i hwf h
  cases bytes with
  | nil => cases h
  | cons op tail =>
    rcases format_cases (opcodeFormat op) with hf | hf | hf | hf
    · rw [decode_op hf] at h
      cases h
      rw [encode_row_op op hf, List.singleton_append]
    · cases tail with
      | nil => cases hf' : opcodeFormat op <;> simp [hf', Format.immediates] at hf <;> simp [decode, hf'] at h
      | cons b1 tail =>
        rw [decode_byte hf] at h
        cases h
        rw [encode_row_byte hf, List.cons_append, List.singleton_append]
    · match tail with
      | [] | [_] => simp [decode, hf] at h
      | b1 :: b2 :: tail =>
        rw [decode_word hf] at h
        cases h
        rw [encode_row_word hf, List.cons_append, List.cons_append, List.singleton_append]
    · cases tail with
      | nil =>
        simp only [decode, hf] at h
        cases h
        exact absurd hwf (by decide)
      | cons op2 tail =>
        rw [decode_cb hf] at h
        cases h
        rw [encode_decodeCB, eq_of_format_cbOp op hf, List.cons_append, List.singleton_append]

theorem length_of_immediates : ∀ {f : Format}, f.immediates = 1 → f.length = 2
  | .opN8, _ | .opE8, _ | .opA8, _ => rfl

/-- Three bytes hold a whole instruction at their head, and its first byte tells its length. -/
theorem decode_three (op b1 b2 : Byte) (rest : List Byte) : ∃ i, WellFormed i ∧
    decode (op :: b1 :: b2 :: rest) = .ok (i, (op :: b1 :: b2 :: rest).drop (opcodeFormat op).length) ∧
    (encode i).headD 0 = op ∧ (encode i).length = (opcodeFormat op).length := by
  rcases format_cases (opcodeFormat op) with hf | hf | hf | hf
  · have henc := encode_row_op op hf
    have hwf : WellFormed (decodePrimary op 0 0) := wellFormed_of_encode_ne (by rw [henc]; rintro ⟨⟩; cases hf)
    exact ⟨_, hwf, by rw [decode_op hf, hf]; rfl, by rw [henc]; rfl, by rw [henc, hf]; rfl⟩
  · have henc := encode_row_byte hf b1
    have hwf : WellFormed (decodePrimary op b1 0) := wellFormed_of_encode_ne (by rw [henc]; simp)
    have hlen := length_of_immediates hf
    exact ⟨_, hwf, by rw [decode_byte hf, hlen]; rfl, by rw [henc]; rfl, by rw [henc, hlen]; rfl⟩
  · have henc := encode_row_word hf b1 b2
    have hwf : WellFormed (decodePrimary op b1 b2) := wellFormed_of_encode_ne (by rw [henc]; simp)
    exact ⟨_, hwf, by rw [decode_word hf, hf]; rfl, by rw [henc]; rfl, by rw [henc, hf]; rfl⟩
  · have henc := encode_decodeCB b1
    have hwf : WellFormed (decodeCB b1) := wellFormed_of_encode_ne (by rw [henc]; simp)
    exact ⟨_, hwf, by rw [decode_cb hf, hf]; rfl, by rw [henc, eq_of_format_cbOp op hf]; rfl, by rw [henc, hf]; rfl⟩

/-- Settles O4: three bytes are as many as any instruction has. -/
theorem decodeTotalByFirstByte : Obligations.DecodeTotalByFirstByte := by
  intro op b1 b2 rest
  obtain ⟨i, hwf, hdecode, hhead, -⟩ := decode_three op b1 b2 rest
  exact ⟨i, _, hdecode, hwf, rfl, hhead⟩

/-! ### The fetch (R102) -/

/-- The fetch reads the instruction that the decoder reads of the next three bytes, and is as long as its encoding. -/
theorem fetchInstr_spec (s : State) : WellFormed (fetchInstr s).1 ∧
    (fetchInstr s).2 = afterFetches (encode (fetchInstr s).1).length s ∧
    ∃ rest, decode (fetchedBytes s) = .ok ((fetchInstr s).1, rest) := by
  have hthree : fetchedBytes s = [fetchedByteAt 0 s, fetchedByteAt 1 s, fetchedByteAt 2 s] := rfl
  obtain ⟨i, hwf, hdecode, -, hlen⟩ := decode_three (fetchedByteAt 0 s) (fetchedByteAt 1 s) (fetchedByteAt 2 s) []
  rw [hthree, hdecode]
  suffices hfetch : fetchInstr s = (i, afterFetches (opcodeFormat (fetchedByteAt 0 s)).length s) by
    rw [hfetch, hlen]
    exact ⟨hwf, rfl, _, rfl⟩
  rcases format_cases (opcodeFormat (fetchedByteAt 0 s)) with hf | hf | hf | hf
  · simp only [decode_op hf, Except.ok.injEq, Prod.mk.injEq] at hdecode
    obtain ⟨rfl, -⟩ := hdecode
    simp only [fetchInstr, hf, Format.length]
  · simp only [decode_byte hf, Except.ok.injEq, Prod.mk.injEq] at hdecode
    obtain ⟨rfl, -⟩ := hdecode
    rw [length_of_immediates hf]
    cases hf' : opcodeFormat (fetchedByteAt 0 s) <;> simp [hf', Format.immediates] at hf <;> simp only [fetchInstr, hf']
  · simp only [decode_word hf, Except.ok.injEq, Prod.mk.injEq] at hdecode
    obtain ⟨rfl, -⟩ := hdecode
    simp only [fetchInstr, hf, Format.length]
  · simp only [decode_cb hf, Except.ok.injEq, Prod.mk.injEq] at hdecode
    obtain ⟨rfl, -⟩ := hdecode
    simp only [fetchInstr, hf, Format.length]

/-! ### The step that fetches (R290) -/

theorem wake_ime (s : State) : (wake s).ctl.ime = s.ctl.ime := by unfold wake; split <;> rfl

theorem wake_status (s : State) : (wake s).ctl.status = s.ctl.status := by unfold wake; split <;> rfl

theorem wake_pending (s : State) : interruptPending (wake s) = interruptPending s := by unfold wake; split <;> rfl

/-- A running machine that is not halted once a pending request has had its effect, and that enters no interrupt, fetches. -/
theorem step_fetches_awake {s : State} (hrun : s.ctl.status = .running) (hhalt : (wake s).ctl.halt = false)
    (hentry : (s.ctl.ime && interruptPending s) = false) :
    step s = exec (fetchInstr (wake s)).1 (fetchInstr (wake s)).2 := by
  rw [← step_fetches (s := wake s) ((wake_status s).trans hrun) hhalt (by rw [wake_ime, wake_pending, hentry])]
  have hwake : wake (wake s) = wake s := wake_of_not_halted hhalt
  simp only [step, hwake, wake_status]

/-- Settles O6: the fetch reads the decoder's instruction, and each fetch is one machine cycle and one byte of `PC`. -/
theorem stepRunsDecodedInstruction : Obligations.StepRunsDecodedInstruction := by
  intro s i rest hrun hhalt hentry hdecode
  obtain ⟨-, hstate, rest', hfetch⟩ := fetchInstr_spec (wake s)
  obtain ⟨rfl, -⟩ := Prod.mk.inj (Except.ok.inj (hfetch.symm.trans hdecode))
  rw [step_fetches_awake hrun hhalt hentry, hstate, afterFetches_eq]

end Sys2Proof.Proofs
end

section
/-! PROOFS. What every instruction does, said once: how many machine cycles it spends, with what bus writes, and what it does to
the CPU's control state. From it the statements over all instructions on the control state (R25 to R27), on the machine
cycles (R420), and on the bytes that end the run (R108, R267). -/

namespace Sys2Proof.Proofs

open Sys2Proof.Machine

/-! ### Runs of machine cycles -/

/-- `t` comes from `s` by `n` machine cycles, each after at most one bus write, and between them by changes of the CPU's
registers that keep or clear the low four bits of `F`. The control state is not touched. -/
inductive Runs (s : State) : Nat → State → Prop
  | refl : Runs s 0 s
  | regs {n : Nat} {t : State} (r : Regs) (hf : r.f &&& 0x0F = t.regs.f &&& 0x0F ∨ r.f &&& 0x0F = 0) (h : Runs s n t) :
      Runs s n { t with regs := r }
  | cycle {n : Nat} {t : State} (h : Runs s n t) : Runs s (n + 1) (cycle t)
  | memWrite {n : Nat} {t : State} (a : Word) (v : Byte) (h : Runs s n t) : Runs s (n + 1) (memWrite a v t)

namespace Runs

variable {s t u : State} {n m : Nat}

theorem trans (h : Runs s n t) (h' : Runs t m u) : Runs s (n + m) u := by
  induction h' with
  | refl => exact h
  | regs r hf _ ih => exact ih.regs r hf
  | cycle _ ih => exact ih.cycle
  | memWrite a v _ ih => exact ih.memWrite a v

theorem setPc (v : Word) (h : Runs s n t) : Runs s n (setPc v t) := h.regs _ (.inl rfl)

theorem setSp (v : Word) (h : Runs s n t) : Runs s n (setSp v t) := h.regs _ (.inl rfl)

theorem setFlags (fl : Flags) (h : Runs s n t) : Runs s n (setFlags fl t) := h.regs _ (.inl (putFlags_low fl _))

theorem setReg (r : Reg8) (v : Byte) (h : Runs s n t) : Runs s n (setReg r v t) := by
  cases r <;> exact h.regs _ (.inl rfl)

theorem setPair (p : Pair) (v : Word) (h : Runs s n t) : Runs s n (setPair p v t) := by
  cases p <;> exact h.regs _ (.inl rfl)

theorem setStackPair (p : StackPair) (v : Word) (h : Runs s n t) : Runs s n (setStackPair p v t) := by
  have hmask : (0xF0 : Byte) &&& 0x0F = 0 := by decide
  cases p
  case af => exact h.regs _ (.inr (by rw [BitVec.and_assoc, hmask]; exact BitVec.and_zero))
  all_goals exact h.regs _ (.inl rfl)

theorem setAF (r : Byte × Flags) (h : Runs s n t) : Runs s n (setAF r t) := (h.setReg .a r.1).setFlags r.2

theorem cycles (k : Nat) (h : Runs s n t) : Runs s (n + k) (cycles k t) := by
  induction k generalizing n t with
  | zero => exact h
  | succ k ih =>
    rw [← Nat.add_assoc, Nat.add_right_comm]
    exact ih h.cycle

theorem push16 (v : Word) (h : Runs s n t) : Runs s (n + 2) (push16 v t) := by
  rw [push16_eq]
  exact ((h.memWrite _ _).memWrite _ _).setSp _

/-- The machine cycles of one access to an operand of table `r` (R104). -/
def accessCycles : Operand → Nat
  | .reg _ => 0
  | .atHL => 1

theorem putOperand (o : Operand) (v : Byte) (h : Runs s n t) : Runs s (n + accessCycles o) (putOperand o v t) := by
  cases o with
  | reg r => exact h.setReg r v
  | atHL => exact h.memWrite _ v

theorem withOperand (o : Operand) {k : Byte → State → State} (hk : ∀ v t, Runs s (accessCycles o) t → Runs s m (k v t)) :
    Runs s m (withOperand o k s) := by
  cases o with
  | reg r => exact hk _ _ .refl
  | atHL => exact hk _ _ (cycle .refl)

theorem withPop16 {k : Word → State → State} (hk : ∀ v t, Runs s 2 t → Runs s m (k v t)) : Runs s m (withPop16 k s) := by
  rw [withPop16_eq]
  exact hk _ _ (setSp _ (cycle (cycle .refl)))

theorem afterFetch : Runs s 1 (afterFetch s) := setPc _ (cycle .refl)

theorem afterFetches (k : Nat) : Runs s k (afterFetches k s) := by
  rw [afterFetches_eq, ← Nat.zero_add k]
  simpa using setPc (s.regs.pc + BitVec.ofNat 16 k) (cycles k (.refl (s := s)))

/-! ### What a run keeps -/

theorem ctl (h : Runs s n t) : t.ctl = s.ctl := by
  induction h with
  | refl => rfl
  | regs _ _ _ ih => exact ih
  | cycle _ ih => rw [cycle_ctl, ih]
  | memWrite _ _ _ ih => rw [memWrite_ctl, ih]

theorem clock (h : Runs s n t) : t.clock = s.clock + 4 * n := by
  induction h with
  | refl => rfl
  | regs _ _ _ ih => exact ih
  | cycle _ ih => rw [cycle_clock, ih]; omega
  | memWrite _ _ _ ih => rw [memWrite_clock, ih]; omega

end Runs

/-! ### The meanings as runs -/

section
variable (s : State)

open Runs

theorem runs_aluOperand (op : AluOp) (o : Operand) : Runs s (accessCycles o) (aluOperand op o s) :=
  withOperand o fun _ _ h => h.setAF _

theorem runs_incOperand (o : Operand) : Runs s (accessCycles o + accessCycles o) (incOperand o s) :=
  withOperand o fun _ _ h => (h.setFlags _).putOperand o _

theorem runs_decOperand (o : Operand) : Runs s (accessCycles o + accessCycles o) (decOperand o s) :=
  withOperand o fun _ _ h => (h.setFlags _).putOperand o _

theorem runs_rotateOperand (op : RotOp) (o : Operand) : Runs s (accessCycles o + accessCycles o) (rotateOperand op o s) :=
  withOperand o fun _ _ h => (h.setFlags _).putOperand o _

theorem runs_bitTest (b : Fin 8) (o : Operand) : Runs s (accessCycles o) (bitTest b o s) :=
  withOperand o fun _ _ h => h.setFlags _

theorem runs_bitReset (b : Fin 8) (o : Operand) : Runs s (accessCycles o + accessCycles o) (bitReset b o s) :=
  withOperand o fun _ _ h => h.putOperand o _

theorem runs_bitSet (b : Fin 8) (o : Operand) : Runs s (accessCycles o + accessCycles o) (bitSet b o s) :=
  withOperand o fun _ _ h => h.putOperand o _

theorem runs_loadA (addr : Word) : Runs s 1 (loadA addr s) := setReg .a _ (cycle .refl)

theorem runs_storeA (addr : Word) : Runs s 1 (storeA addr s) := memWrite addr _ .refl

theorem runs_moveHL {s t : State} {n : Nat} (d : Word) (h : Runs s n t) : Runs s n (moveHL d t) := h.setPair .hl _

theorem runs_callTo (target : Word) : Runs s 3 (callTo target s) := setPc _ (push16 _ (cycle .refl))

theorem runs_returnFromCall : Runs s 3 (returnFromCall s) := withPop16 fun _ _ h => cycle (h.setPc _)

theorem runs_cbOperation (op2 : Byte) : ∃ n, Runs s n (cbOperation op2 s) := by
  unfold cbOperation
  split
  · exact ⟨_, runs_rotateOperand s _ _⟩
  · exact ⟨_, runs_bitTest s _ _⟩
  · exact ⟨_, runs_bitReset s _ _⟩
  · exact ⟨_, runs_bitSet s _ _⟩

theorem runs_prefixCB : ∃ n, Runs s n (prefixCB s) := by
  obtain ⟨n, h⟩ := runs_cbOperation (Machine.afterFetch s) (fetchedByte s)
  exact ⟨1 + n, afterFetch.trans h⟩

end

/-! ### Every instruction is a run and a change of the control state -/

/-- The byte that an undefined opcode records (R267). -/
def undefinedByte? : Instr → Option Byte
  | .undefD3 => some 0xD3
  | .undefDB => some 0xDB
  | .undefDD => some 0xDD
  | .undefE3 => some 0xE3
  | .undefE4 => some 0xE4
  | .undefEB => some 0xEB
  | .undefEC => some 0xEC
  | .undefED => some 0xED
  | .undefF4 => some 0xF4
  | .undefFC => some 0xFC
  | .undefFD => some 0xFD
  | _ => none

/-- The control state after an instruction (R25 to R27): the interrupt switches, `HALT`, `STOP` and the undefined opcodes
change it, no other does. -/
def ctlAfter (i : Instr) (s : State) : Ctl :=
  match i with
  | .ei | .reti => { s.ctl with ime := true }
  | .di => { s.ctl with ime := false }
  | .halt => if s.ie = 0 then s.ctl else { s.ctl with halt := true }
  | .stop => { s.ctl with stop := true, status := .stopExecuted }
  | i =>
    match undefinedByte? i with
    | some byte => { s.ctl with status := .undefinedOpcode byte (s.regs.pc - 1) }
    | none => s.ctl

/-- `i` leaves the control state, and spends `n` machine cycles after its fetches by the table of R420. -/
def Spends (i : Instr) (s : State) (n : Nat) : Prop := ctlAfter i s = s.ctl ∧ n + (encode i).length = i.machineCycles s

/-- `t` is what `i` leaves of `s`: a run of as many machine cycles as R420 lists, and the control state of `ctlAfter`. -/
def Executes (i : Instr) (s t : State) : Prop :=
  ∃ n u, Runs s n u ∧ t = { u with ctl := ctlAfter i s } ∧ (WellFormed i → n + (encode i).length = i.machineCycles s)

theorem Spends.executes {i : Instr} {s t : State} {n : Nat} (hi : Spends i s n) (h : Runs s n t) : Executes i s t :=
  ⟨n, t, h, by rw [hi.1, ← h.ctl], fun _ => hi.2⟩

section
variable (s : State)

open Runs

theorem spends_ldInstr_reg (dst r : Reg8) : Spends (ldInstr (.reg dst) (.reg r)) s 0 := by
  cases dst <;> cases r <;> exact ⟨rfl, rfl⟩

theorem spends_ldInstr_load (dst : Reg8) : Spends (ldInstr (.reg dst) .atHL) s 1 := by cases dst <;> exact ⟨rfl, rfl⟩

theorem spends_ldInstr_store (r : Reg8) : Spends (ldInstr .atHL (.reg r)) s 1 := by cases r <;> exact ⟨rfl, rfl⟩

theorem spends_ldNInstr (o : Operand) (n : Byte) : Spends (ldNInstr o n) s (accessCycles o) := by
  rcases o with (_ | _ | _ | _ | _ | _ | _) | _ <;> exact ⟨rfl, rfl⟩

theorem spends_ldPairInstr (p : Pair) (nn : Word) : Spends (ldPairInstr p nn) s 0 := by cases p <;> exact ⟨rfl, rfl⟩

theorem spends_pushInstr (p : StackPair) : Spends (pushInstr p) s 3 := by cases p <;> exact ⟨rfl, rfl⟩

theorem spends_popInstr (p : StackPair) : Spends (popInstr p) s 2 := by cases p <;> exact ⟨rfl, rfl⟩

theorem spends_aluInstr (op : AluOp) (o : Operand) : Spends (aluInstr op o) s (accessCycles o) := by
  rcases o with (_ | _ | _ | _ | _ | _ | _) | _ <;> cases op <;> exact ⟨rfl, rfl⟩

theorem spends_aluNInstr (op : AluOp) (n : Byte) : Spends (aluNInstr op n) s 0 := by cases op <;> exact ⟨rfl, rfl⟩

theorem spends_incInstr (o : Operand) : Spends (incInstr o) s (accessCycles o + accessCycles o) := by
  rcases o with (_ | _ | _ | _ | _ | _ | _) | _ <;> exact ⟨rfl, rfl⟩

theorem spends_decInstr (o : Operand) : Spends (decInstr o) s (accessCycles o + accessCycles o) := by
  rcases o with (_ | _ | _ | _ | _ | _ | _) | _ <;> exact ⟨rfl, rfl⟩

theorem spends_addHLInstr (p : Pair) : Spends (addHLInstr p) s 1 := by cases p <;> exact ⟨rfl, rfl⟩

theorem spends_incPairInstr (p : Pair) : Spends (incPairInstr p) s 1 := by cases p <;> exact ⟨rfl, rfl⟩

theorem spends_decPairInstr (p : Pair) : Spends (decPairInstr p) s 1 := by cases p <;> exact ⟨rfl, rfl⟩

theorem spends_rotInstr (op : RotOp) (o : Operand) : Spends (rotInstr op o) s (accessCycles o + accessCycles o) := by
  rcases o with (_ | _ | _ | _ | _ | _ | _) | _ <;> cases op <;> exact ⟨rfl, rfl⟩

theorem spends_bitInstr (b : Fin 8) (o : Operand) : Spends (bitInstr b o) s (accessCycles o) := by
  rcases o with (_ | _ | _ | _ | _ | _ | _) | _
  all_goals
    match b with
    | 0 | 1 | 2 | 3 | 4 | 5 | 6 | 7 => exact ⟨rfl, rfl⟩

theorem spends_resInstr (b : Fin 8) (o : Operand) : Spends (resInstr b o) s (accessCycles o + accessCycles o) := by
  rcases o with (_ | _ | _ | _ | _ | _ | _) | _
  all_goals
    match b with
    | 0 | 1 | 2 | 3 | 4 | 5 | 6 | 7 => exact ⟨rfl, rfl⟩

theorem spends_setInstr (b : Fin 8) (o : Operand) : Spends (setInstr b o) s (accessCycles o + accessCycles o) := by
  rcases o with (_ | _ | _ | _ | _ | _ | _) | _
  all_goals
    match b with
    | 0 | 1 | 2 | 3 | 4 | 5 | 6 | 7 => exact ⟨rfl, rfl⟩

theorem spends_rstInstr (y : Fin 8) : Spends (rstInstr y) s 3 := by
  match y with
  | 0 | 1 | 2 | 3 | 4 | 5 | 6 | 7 => exact ⟨rfl, rfl⟩

variable {s} {cc : Cond}

theorem spends_jpInstr (nn : Word) : Spends (jpInstr cc nn) s (if condHolds cc s then 1 else 0) := by
  refine ⟨by cases cc <;> rfl, ?_⟩
  have hcount : (jpInstr cc nn).machineCycles s = if condHolds cc s then 4 else 3 := by cases cc <;> rfl
  have hlen : (encode (jpInstr cc nn)).length = 3 := by cases cc <;> rfl
  rw [hcount, hlen]
  split <;> rfl

theorem spends_jrInstr (e : Byte) : Spends (jrInstr cc e) s (if condHolds cc s then 1 else 0) := by
  refine ⟨by cases cc <;> rfl, ?_⟩
  have hcount : (jrInstr cc e).machineCycles s = if condHolds cc s then 3 else 2 := by cases cc <;> rfl
  have hlen : (encode (jrInstr cc e)).length = 2 := by cases cc <;> rfl
  rw [hcount, hlen]
  split <;> rfl

theorem spends_callInstr (nn : Word) : Spends (callInstr cc nn) s (if condHolds cc s then 3 else 0) := by
  refine ⟨by cases cc <;> rfl, ?_⟩
  have hcount : (callInstr cc nn).machineCycles s = if condHolds cc s then 6 else 3 := by cases cc <;> rfl
  have hlen : (encode (callInstr cc nn)).length = 3 := by cases cc <;> rfl
  rw [hcount, hlen]
  split <;> rfl

theorem spends_retInstr : Spends (retInstr cc) s (if condHolds cc s then 4 else 1) := by
  refine ⟨by cases cc <;> rfl, ?_⟩
  have hcount : (retInstr cc).machineCycles s = if condHolds cc s then 5 else 2 := by cases cc <;> rfl
  have hlen : (encode (retInstr cc)).length = 1 := by cases cc <;> rfl
  rw [hcount, hlen]
  split <;> rfl

theorem runs_jumpIf (nn : Word) : Runs s (if condHolds cc s then 1 else 0) (jumpIf cc nn s) := by
  unfold jumpIf
  split
  · exact cycle (setPc nn .refl)
  · exact .refl

theorem runs_jumpRelativeIf (e : Byte) : Runs s (if condHolds cc s then 1 else 0) (jumpRelativeIf cc e s) := by
  unfold jumpRelativeIf
  split
  · exact cycle (setPc _ .refl)
  · exact .refl

theorem runs_callIf (nn : Word) : Runs s (if condHolds cc s then 3 else 0) (callIf cc nn s) := by
  unfold callIf
  split
  · exact runs_callTo s nn
  · exact .refl

/-- The condition of `RET cc` is tested a machine cycle later, which changes no flag. -/
theorem runs_returnIf : Runs s (if condHolds cc s then 4 else 1) (returnIf cc s) := by
  have hcond : condHolds cc (Machine.cycle s) = condHolds cc s := condHolds_congr (cycle_regs s) cc
  unfold returnIf
  dsimp only
  rw [hcond]
  split
  · exact (cycle .refl).trans (runs_returnFromCall (Machine.cycle s))
  · exact cycle .refl

end

/-- `RETI` is `RET` and the switch of `IME` (R249). -/
theorem returnFromInterrupt_eq (s : State) : returnFromInterrupt s = setIme true (returnFromCall s) := by
  simp only [returnFromInterrupt, interruptReturn, returnFromCall, withPop16_eq]

theorem executes_returnFromInterrupt (s : State) : Executes .reti s (returnFromInterrupt s) := by
  have hret := runs_returnFromCall s
  refine ⟨3, returnFromCall s, hret, ?_, fun _ => rfl⟩
  rw [returnFromInterrupt_eq, setIme, hret.ctl]
  rfl

theorem executes_haltCpu (s : State) : Executes .halt s (haltCpu s) := by
  unfold Executes haltCpu ctlAfter
  split
  · exact ⟨0, _, .setPc (s.regs.pc + 1) .refl, rfl, fun _ => rfl⟩
  · exact ⟨0, s, .refl, rfl, fun _ => rfl⟩

theorem executes_prefixCB (s : State) : Executes .prefixCB s (prefixCB s) := by
  obtain ⟨n, h⟩ := runs_prefixCB s
  exact ⟨n, _, h, by rw [show ctlAfter .prefixCB s = s.ctl from rfl, ← h.ctl], fun hwf => absurd hwf (by decide)⟩

theorem executes_undefinedOpcode (s : State) {i : Instr} {byte : Byte} (h : (i, byte) ∈ undefinedInstrs) :
    Executes i s (undefinedOpcode byte s) := by
  have hrow : (encode i).length = i.machineCycles s ∧
      ctlAfter i s = { s.ctl with status := .undefinedOpcode byte (s.regs.pc - 1) } := by
    unfold undefinedInstrs at h
    repeat (rcases h with _ | ⟨_, h⟩; · exact ⟨rfl, rfl⟩)
    cases h
  obtain ⟨hcount, hctl⟩ := hrow
  exact ⟨0, s, .refl, by rw [hctl]; rfl, fun _ => by rw [Nat.zero_add, hcount]⟩

/-- What every instruction does. -/
theorem exec_executes (i : Instr) (s : State) : ∃ t, exec i s = .next t ∧ Executes i s t := by
  refine exec_cases (P := fun i t => Executes i s t) s ?ldRegs ?ldLoad ?ldStore ?ldN ?ldAAtBC ?ldAAtDE ?ldAtBCA ?ldAtDEA
    ?ldAAtNn ?ldAtNnA ?ldhAAtN ?ldhAtNA ?ldAAtC ?ldAtCA ?ldAtHLIncA ?ldAAtHLInc ?ldAtHLDecA ?ldAAtHLDec ?ldPair ?ldAtNnSP
    ?ldSPHL ?ldHLSPE ?pushP ?popP ?alu ?aluN ?inc ?dec ?daa ?cpl ?scf ?ccf ?addHL ?incPair ?decPair ?addSPE ?rlca ?rrca ?rla
    ?rra ?rot ?bitB ?resB ?setB ?jp ?jpIf ?jpHL ?jr ?jrIf ?call ?callIf ?ret ?retIf ?reti ?rst ?nop ?halt ?stop ?di ?ei ?cb
    ?undef i
  case ldRegs => exact fun dst r => (spends_ldInstr_reg s dst r).executes (.setReg dst _ .refl)
  case ldLoad => exact fun dst => (spends_ldInstr_load s dst).executes (.setReg dst _ (.cycle .refl))
  case ldStore => exact fun r => (spends_ldInstr_store s r).executes (.memWrite _ _ .refl)
  case ldN => exact fun o n => (spends_ldNInstr s o n).executes (by simpa [ldOperandN] using Runs.refl.putOperand o n (s := s))
  case ldAAtBC | ldAAtDE | ldAAtC => exact Spends.executes ⟨rfl, rfl⟩ (runs_loadA s _)
  case ldAtBCA | ldAtDEA | ldAtCA => exact Spends.executes ⟨rfl, rfl⟩ (runs_storeA s _)
  case ldAAtNn | ldhAAtN => exact fun _ => Spends.executes ⟨rfl, rfl⟩ (runs_loadA s _)
  case ldAtNnA | ldhAtNA => exact fun _ => Spends.executes ⟨rfl, rfl⟩ (runs_storeA s _)
  case ldAtHLIncA | ldAtHLDecA => exact Spends.executes ⟨rfl, rfl⟩ (runs_moveHL _ (runs_storeA s _))
  case ldAAtHLInc | ldAAtHLDec => exact Spends.executes ⟨rfl, rfl⟩ (runs_moveHL _ (runs_loadA s _))
  case ldPair => exact fun p nn => (spends_ldPairInstr s p nn).executes (.setPair p nn .refl)
  case ldAtNnSP => exact fun nn => Spends.executes ⟨rfl, rfl⟩ (.memWrite _ _ (.memWrite _ _ .refl))
  case ldSPHL => exact Spends.executes ⟨rfl, rfl⟩ (.cycle (.setSp _ .refl))
  case ldHLSPE => exact fun e => Spends.executes ⟨rfl, rfl⟩ (.cycle (.setFlags _ (.setPair .hl _ .refl)))
  case pushP => exact fun p => (spends_pushInstr s p).executes (.push16 _ (.cycle .refl))
  case popP => exact fun p => (spends_popInstr s p).executes (.withPop16 fun v _ h => h.setStackPair p v)
  case alu => exact fun op o => (spends_aluInstr s op o).executes (runs_aluOperand s op o)
  case aluN => exact fun op n => (spends_aluNInstr s op n).executes (.setAF _ .refl)
  case inc => exact fun o => (spends_incInstr s o).executes (runs_incOperand s o)
  case dec => exact fun o => (spends_decInstr s o).executes (runs_decOperand s o)
  case daa | cpl | rlca | rrca | rla | rra => exact Spends.executes ⟨rfl, rfl⟩ (.setAF _ .refl)
  case scf | ccf => exact Spends.executes ⟨rfl, rfl⟩ (.setFlags _ .refl)
  case addHL => exact fun p => (spends_addHLInstr s p).executes (.cycle (.setFlags _ (.setPair .hl _ .refl)))
  case incPair => exact fun p => (spends_incPairInstr s p).executes (.cycle (.setPair p _ .refl))
  case decPair => exact fun p => (spends_decPairInstr s p).executes (.cycle (.setPair p _ .refl))
  case addSPE => exact fun e => Spends.executes ⟨rfl, rfl⟩ (.cycle (.cycle (.setFlags _ (.setSp _ .refl))))
  case rot => exact fun op o => (spends_rotInstr s op o).executes (runs_rotateOperand s op o)
  case bitB => exact fun b o => (spends_bitInstr s b o).executes (runs_bitTest s b o)
  case resB => exact fun b o => (spends_resInstr s b o).executes (runs_bitReset s b o)
  case setB => exact fun b o => (spends_setInstr s b o).executes (runs_bitSet s b o)
  case jp => exact fun nn => Spends.executes ⟨rfl, rfl⟩ (.cycle (.setPc nn .refl))
  case jpIf => exact fun _ nn => (spends_jpInstr nn).executes (runs_jumpIf nn)
  case jpHL => exact Spends.executes ⟨rfl, rfl⟩ (.setPc _ .refl)
  case jr => exact fun e => Spends.executes ⟨rfl, rfl⟩ (.cycle (.setPc _ .refl))
  case jrIf => exact fun _ e => (spends_jrInstr e).executes (runs_jumpRelativeIf e)
  case call => exact fun nn => Spends.executes ⟨rfl, rfl⟩ (runs_callTo s nn)
  case callIf => exact fun _ nn => (spends_callInstr nn).executes (runs_callIf nn)
  case ret => exact Spends.executes ⟨rfl, rfl⟩ (runs_returnFromCall s)
  case retIf => exact fun _ => spends_retInstr.executes runs_returnIf
  case reti => exact executes_returnFromInterrupt s
  case rst => exact fun y => (spends_rstInstr s y).executes (runs_callTo s _)
  case nop => exact Spends.executes ⟨rfl, rfl⟩ .refl
  case halt => exact executes_haltCpu s
  case stop | di | ei => exact ⟨0, s, .refl, rfl, fun _ => rfl⟩
  case cb => exact executes_prefixCB s
  case undef => exact fun _ _ h => executes_undefinedOpcode s h

/-- What an instruction leaves is what `Executes` says of it. -/
theorem executes_of_exec {i : Instr} {s t : State} (h : exec i s = .next t) : Executes i s t := by
  obtain ⟨t', h', hex⟩ := exec_executes i s
  rw [h] at h'
  cases h'
  exact hex

/-! ### The machine cycles (R420) -/

theorem cycleCounts_le_six (i : Instr) : i.cycleCounts.1 ≤ 6 ∧ i.cycleCounts.2 ≤ 6 := by
  cases i <;> exact ⟨Nat.le_of_ble_eq_true rfl, Nat.le_of_ble_eq_true rfl⟩

theorem machineCycles_le_six (i : Instr) (s : State) : i.machineCycles s ≤ 6 := by
  obtain ⟨hfail, hhold⟩ := cycleCounts_le_six i
  unfold Instr.machineCycles
  repeat' split
  all_goals assumption

/-- Settles O16: a run spends as many machine cycles as the table lists after the fetches. -/
theorem machineCyclesMatchTable : Obligations.MachineCyclesMatchTable := by
  intro i s t hwf h
  obtain ⟨n, u, hrun, rfl, hcount⟩ := executes_of_exec h
  refine ⟨?_, machineCycles_le_six i s⟩
  have hclock := hrun.clock
  have hn := hcount hwf
  dsimp only
  omega

/-! ### The control state (R25 to R27) -/

theorem executes_ctl {i : Instr} {s t : State} (h : exec i s = .next t) : t.ctl = ctlAfter i s := by
  obtain ⟨_, _, -, rfl, -⟩ := executes_of_exec h
  rfl

/-- An undefined byte is recorded by its own row of R108. -/
theorem mem_of_undefinedByte {i : Instr} {byte : Byte} (h : undefinedByte? i = some byte) : (i, byte) ∈ undefinedInstrs := by
  unfold undefinedByte? at h
  split at h <;> cases h <;> decide

/-- The instructions that change the control state, and how. -/
theorem ctlAfter_cases (i : Instr) (s : State) :
    ((i = .ei ∨ i = .reti) ∧ ctlAfter i s = { s.ctl with ime := true }) ∨
    (i = .di ∧ ctlAfter i s = { s.ctl with ime := false }) ∨
    (i = .halt ∧ ctlAfter i s = if s.ie = 0 then s.ctl else { s.ctl with halt := true }) ∨
    (i = .stop ∧ ctlAfter i s = { s.ctl with stop := true, status := .stopExecuted }) ∨
    (∃ byte, (i, byte) ∈ undefinedInstrs ∧ ctlAfter i s = { s.ctl with status := .undefinedOpcode byte (s.regs.pc - 1) }) ∨
    (i ∉ [.ei, .reti, .di, .halt, .stop] ∧ ctlAfter i s = s.ctl) := by
  by_cases hmem : i ∈ [Instr.ei, .reti, .di, .halt, .stop]
  · simp only [List.mem_cons, List.not_mem_nil, or_false] at hmem
    rcases hmem with rfl | rfl | rfl | rfl | rfl
    · exact .inl ⟨.inl rfl, rfl⟩
    · exact .inl ⟨.inr rfl, rfl⟩
    · exact .inr (.inl ⟨rfl, rfl⟩)
    · exact .inr (.inr (.inl ⟨rfl, rfl⟩))
    · exact .inr (.inr (.inr (.inl ⟨rfl, rfl⟩)))
  · right; right; right; right
    unfold ctlAfter
    split
    case h_6 =>
      split
      · next byte h => exact .inl ⟨byte, mem_of_undefinedByte h, rfl⟩
      · exact .inr ⟨hmem, rfl⟩
    all_goals exact absurd (by decide) hmem

/-- Settles O11, by the instructions that change the control state. -/
theorem controlStateChanges : Obligations.ControlStateChanges := by
  intro i s t hwf h
  rw [executes_ctl h]
  rcases ctlAfter_cases i s with ⟨rfl | rfl, e⟩ | ⟨rfl, e⟩ | ⟨rfl, e⟩ | ⟨rfl, e⟩ | ⟨byte, hmem, e⟩ | ⟨hmem, e⟩
  · rw [e]; simp
  · rw [e]; simp
  · rw [e]; simp
  · by_cases hie : s.ie = 0
    · rw [e, if_pos hie]; simp [hie]
    · rw [e, if_neg hie, if_pos (c := _ ∧ _) ⟨rfl, hie⟩]; simp
  · rw [e]; simp
  · rw [e]
    unfold undefinedInstrs at hmem
    repeat (rcases hmem with _ | ⟨_, hmem⟩; · simp)
    cases hmem
  · rw [e]
    simp only [List.mem_cons, List.not_mem_nil, or_false, not_or] at hmem
    simp [hmem]

/-! ### The bytes that end the run (R108, R263, R267) -/

/-- The opcode byte of an instruction (R100). -/
def opcodeByte (i : Instr) : Byte := (encode i).headD 0

/-- The opcode byte does not depend on the immediate. -/
theorem opcodeByte_immediates (n n' : Byte) (w w' : Word) :
    (∀ cc, opcodeByte (jrInstr cc n) = opcodeByte (jrInstr cc n')) ∧
    (∀ p, opcodeByte (ldPairInstr p w) = opcodeByte (ldPairInstr p w')) ∧
    (∀ o, opcodeByte (ldNInstr o n) = opcodeByte (ldNInstr o n')) ∧
    (∀ op, opcodeByte (aluNInstr op n) = opcodeByte (aluNInstr op n')) ∧
    (∀ cc, opcodeByte (jpInstr cc w) = opcodeByte (jpInstr cc w')) ∧
    ∀ cc, opcodeByte (callInstr cc w) = opcodeByte (callInstr cc w') := by
  refine ⟨?_, ?_, fun o => ?operand, ?_, ?_, ?_⟩
  case operand => rcases o with (_ | _ | _ | _ | _ | _ | _) | _ <;> rfl
  all_goals intro x; cases x <;> rfl

theorem opcodeByte_decodePrimary_immediates (op b1 b2 : Byte) :
    opcodeByte (decodePrimary op b1 b2) = opcodeByte (decodePrimary op 0 0) := by
  obtain ⟨hjr, hpair, hldN, haluN, hjp, hcall⟩ := opcodeByte_immediates b1 0 (mkWord b2 b1) (mkWord 0 0)
  unfold decodePrimary
  split
  case h_1 =>
    unfold decodeX0
    repeat' split
    all_goals first | rfl | exact hjr _ | exact hpair _ | exact hldN _
  case h_2 | h_3 => rfl
  case h_4 =>
    unfold decodeX3
    repeat' split
    all_goals first | rfl | exact haluN _ | exact hjp _ | exact hcall _

/-- A row of the map has its own byte, whatever its immediate. -/
theorem opcodeByte_decodePrimary (op b1 b2 : Byte) : opcodeByte (decodePrimary op b1 b2) = op := by
  have hzero : ∀ op, opcodeByte (decodePrimary op 0 0) = op := by decide
  rw [opcodeByte_decodePrimary_immediates, hzero]

theorem opcodeByte_decodeCB (op2 : Byte) : opcodeByte (decodeCB op2) = 0xCB := by
  rw [opcodeByte, encode_decodeCB]
  rfl

theorem opcodeByte_mem_undefinedBytes {i : Instr} {byte : Byte} (h : (i, byte) ∈ undefinedInstrs) :
    opcodeByte i ∈ undefinedBytes := by
  unfold undefinedInstrs at h
  repeat (rcases h with _ | ⟨_, h⟩; · decide)
  cases h

/-- The undefined bytes and `STOP` alone change the status. -/
theorem ctlAfter_status {i : Instr} (hundef : opcodeByte i ∉ undefinedBytes) (hstop : opcodeByte i ≠ 0x10) (s : State) :
    (ctlAfter i s).status = s.ctl.status := by
  rcases ctlAfter_cases i s with ⟨-, e⟩ | ⟨-, e⟩ | ⟨-, e⟩ | ⟨rfl, e⟩ | ⟨byte, hmem, e⟩ | ⟨-, e⟩
  · rw [e]
  · rw [e]
  · rw [e]; split <;> rfl
  · exact absurd rfl hstop
  · exact absurd (opcodeByte_mem_undefinedBytes hmem) hundef
  · rw [e]

/-- Settles O5: the opcode byte of a row is its own, and the status after an instruction is that of `ctlAfter`. -/
theorem undefinedBytesExactlyEleven : Obligations.UndefinedBytesExactlyEleven := by
  intro op b1 b2 s hrun
  constructor
  · obtain ⟨t, h, -⟩ := exec_executes (decodePrimary op b1 b2) s
    refine ⟨t, h, ?_⟩
    rw [executes_ctl h]
    by_cases hundef : op ∈ undefinedBytes
    · rw [if_pos hundef]
      unfold undefinedBytes at hundef
      repeat (rcases hundef with _ | ⟨_, hundef⟩; · rfl)
      cases hundef
    · rw [if_neg hundef]
      by_cases hstop : op = 0x10
      · rw [if_pos hstop, hstop]
        rfl
      · rw [if_neg hstop, ctlAfter_status _ _, hrun] <;> rwa [opcodeByte_decodePrimary]
  · obtain ⟨t, h, -⟩ := exec_executes (decodeCB op) s
    refine ⟨t, h, ?_⟩
    rw [executes_ctl h, ctlAfter_status _ _, hrun] <;> rw [opcodeByte_decodeCB] <;> decide

end Sys2Proof.Proofs
end

section
/-! PROOFS. The CPU step by its four branches (R290), and from them the statements on the step itself (R283, R290 to R293), on the
invariants (R47), and on the parameters and the boot mapping (R35, R48). -/

namespace Sys2Proof.Proofs

open Sys2Proof.Machine

/-! ### The branches of the step -/

/-- In a terminal status there is no step (R283). -/
theorem step_terminal {s : State} (h : s.ctl.status ≠ .running) : step s = .fault (.terminal s.ctl.status) := by
  unfold step
  split
  · next hrun => exact absurd hrun h
  · rfl

/-- Settles O7: every branch of a running machine answers a next state. -/
theorem stepExactlyWhileRunning : Obligations.StepExactlyWhileRunning := by
  intro s
  refine ⟨⟨?stops, ?goes⟩, step_terminal⟩
  case stops =>
    rintro ⟨t, h⟩
    by_cases hrun : s.ctl.status = .running
    · exact hrun
    · rw [step_terminal hrun] at h
      cases h
  case goes =>
    intro hrun
    simp only [step, hrun]
    split
    · exact ⟨_, rfl⟩
    · split
      · exact ⟨_, rfl⟩
      · exact exec_next _ _

/-- A pending enabled request ends the halt (R291). -/
theorem wake_of_pending {s : State} (h : interruptPending s = true) : wake s = setHalt false s := if_pos h

theorem wake_of_not_pending {s : State} (h : interruptPending s = false) : wake s = s := by simp [wake, h]

/-- A halted CPU with nothing to wake it spends one machine cycle (R290). -/
theorem step_idles {s : State} (hrun : s.ctl.status = .running) (hhalt : s.ctl.halt = true)
    (hp : interruptPending s = false) : step s = .next (cycle s) := by
  simp [step, hrun, wake_of_not_pending hp, hhalt]

/-- All a step can do (R290): idle in a halt, enter an interrupt, or fetch and run an instruction. -/
theorem step_cases {s t : State} (h : step s = .next t) : s.ctl.status = .running ∧
    ((s.ctl.halt = true ∧ interruptPending s = false ∧ t = cycle s) ∨
      (s.ctl.ime = true ∧ interruptPending s = true ∧ t = interruptEntry (setHalt false s)) ∨
      ((wake s).ctl.halt = false ∧ exec (fetchInstr (wake s)).1 (fetchInstr (wake s)).2 = .next t)) := by
  have hrun : s.ctl.status = .running := (stepExactlyWhileRunning s).1.mp ⟨t, h⟩
  have hnext {u : State} (h' : step s = .next u) : t = u := by
    rw [h] at h'
    cases h'
    rfl
  refine ⟨hrun, ?_⟩
  cases hp : interruptPending s with
  | true =>
    have hawake : (wake s).ctl.halt = false := by rw [wake_of_pending hp]; rfl
    cases hime : s.ctl.ime with
    | true => exact .inr (.inl ⟨rfl, rfl, hnext (step_enters hrun hime hp)⟩)
    | false => exact .inr (.inr ⟨hawake, (step_fetches_awake hrun hawake (by rw [hime]; rfl)).symm.trans h⟩)
  | false =>
    rw [wake_of_not_pending hp]
    cases hhalt : s.ctl.halt with
    | true => exact .inl ⟨rfl, rfl, hnext (step_idles hrun hhalt hp)⟩
    | false => exact .inr (.inr ⟨rfl, (step_fetches hrun hhalt (by rw [hp, Bool.and_false])).symm.trans h⟩)

/-! ### Halt and interrupt entry -/

/-- Settles O8: nothing wakes the CPU, and it idles; or a request wakes it, and it steps as if awake. -/
theorem haltIdlesUntilRequest : Obligations.HaltIdlesUntilRequest := by
  intro s hrun hhalt
  refine ⟨fun hp => ?idles, fun hp => ?wakes⟩
  case idles =>
    exact ⟨cycle s, step_idles hrun hhalt hp, cycle_regs s, cycle_ctl s, agentsOf_refl _, cycle_clock s,
      keepsMemory_of_cycles (n := 1) (agentsOf_refl _)⟩
  case wakes =>
    have hsame : wake (setHalt false s) = wake s := by
      rw [wake_of_not_halted (s := setHalt false s) rfl, wake_of_pending hp]
    simp only [step, hsame, setHalt_ctl_status]

theorem upperByte_eq_hiByte (w : Word) : upperByte w = hiByte w :=
  BitVec.eq_of_toNat_eq (by simp [upperByte, hiByte, BitVec.extractLsb'_toNat, Nat.shiftRight_eq_div_pow])

theorem lowerByte_eq_loByte (w : Word) : lowerByte w = loByte w :=
  BitVec.eq_of_toNat_eq (by simp [lowerByte, loByte, BitVec.extractLsb'_toNat])

/-- A push is the two stores of `pushedAgents` and `SP` two lower (R15). -/
theorem push16_eq_pushedAgents (v : Word) (s : State) : push16 v s = setSp (s.regs.sp - 2) (pushedAgents v s) := by
  rw [push16_eq, pushedAgents, upperByte_eq_hiByte, lowerByte_eq_loByte]

/-- Updates of the CPU's own state come after the stores of a push. -/
theorem pushedAgents_setIme_setHalt (v : Word) (b b' : Bool) (s : State) :
    pushedAgents v (setIme b (setHalt b' s)) = setIme b (setHalt b' (pushedAgents v s)) := by
  simp only [pushedAgents, memWrite_setIme, memWrite_setHalt, setIme_regs, setHalt_regs]

/-- Entry from a CPU that was just woken: what becomes of the CPU's own state, and of the agents (R293). -/
theorem interruptEntry_setHalt_eq (s : State) :
    interruptEntry (setHalt false s) =
      setPc (interruptVector (lowestPending (pendingInterrupts s)))
        (setSp (s.regs.sp - 2)
          (setIme false
            (setHalt false
              (pushedAgents s.regs.pc
                (cycles s.params.intEntryInternalMc (acknowledge (lowestPending (pendingInterrupts s)) s)))))) := by
  have hpending : pendingInterrupts (setHalt false s) = pendingInterrupts s := rfl
  have hack (n : Nat) : acknowledge n (setHalt false s) = setHalt false (acknowledge n s) := rfl
  rw [interruptEntry_eq, push16_eq_pushedAgents, hpending, hack, setHalt_params, cycles_setIme, cycles_setHalt,
    pushedAgents_setIme_setHalt]
  simp only [setIme_regs, setHalt_regs, cycles_regs, acknowledge_regs]

theorem pushedAgents_regs (v : Word) (s : State) : (pushedAgents v s).regs = s.regs := by
  simp only [pushedAgents, memWrite_regs]

theorem pushedAgents_ctl (v : Word) (s : State) : (pushedAgents v s).ctl = s.ctl := by simp only [pushedAgents, memWrite_ctl]

theorem pushedAgents_clock (v : Word) (s : State) : (pushedAgents v s).clock = s.clock + 8 := by
  simp only [pushedAgents, memWrite_clock, Nat.add_assoc]

/-- The frame of a push. -/
theorem keepsMemory_of_pushedAgents {v : Word} {k : Nat} {s t : State} (h : AgentsOf (pushedAgents v (cycles k s)) t) :
    KeepsMemory [s.regs.sp - 1, s.regs.sp - 2] s t := by
  rw [pushedAgents, cycles_regs] at h
  exact keepsMemory_of_memWrite_memWrite h

/-- `IRQ` is read at `0xFF0F` alone, whose byte changes with time. -/
theorem busRead_acknowledge {b : Word} (h : changesWithTime b = false) (n : Nat) (s : State) :
    busRead (acknowledge n s) b = busRead s b := by
  have hfits := deviceAt_fits s.bootMapped b
  unfold busRead
  rw [acknowledge_bootMapped]
  generalize deviceAt s.bootMapped b = dev at hfits
  cases dev
  case io r =>
    cases r
    case irq =>
      have hb : b = 0xFF0F := hfits
      subst hb
      exact absurd h (by decide)
    all_goals rfl
  all_goals rfl

theorem keepsMemory_acknowledge {stored : List Word} {n : Nat} {s t : State} (h : KeepsMemory stored (acknowledge n s) t) :
    KeepsMemory stored s t :=
  fun hm b hb hs => (h hm b hb hs).trans (busRead_acknowledge hb n s)

/-- Arbitration finds the least pending source (R292). -/
theorem lowestPending_spec : ∀ p : BitVec 5, p ≠ 0 → lowestPending p < 5 ∧ p.getLsbD (lowestPending p) = true ∧
    ∀ m, m < lowestPending p → p.getLsbD m = false := by
  decide

/-- Settles O9, by what an entry is once the updates of the CPU's own state are moved outside. -/
theorem interruptEntryEffect : Obligations.InterruptEntryEffect := by
  intro s hrun hime hp
  obtain ⟨hlt, hset, hlow⟩ := lowestPending_spec (pendingInterrupts s) (by simpa [interruptPending] using hp)
  refine ⟨lowestPending (pendingInterrupts s), _, hlt, hset, hlow, step_enters hrun hime hp, ?_⟩
  rw [interruptEntry_setHalt_eq]
  generalize lowestPending (pendingInterrupts s) = n
  have hagents : AgentsOf (pushedAgents s.regs.pc (cycles s.params.intEntryInternalMc (acknowledge n s))) _ :=
    agentsOf_setPc (interruptVector n)
      (agentsOf_setSp (s.regs.sp - 2) (agentsOf_setIme false (agentsOf_setHalt false (agentsOf_refl _))))
  refine ⟨?regs, ?ctl, hagents, ?clock, keepsMemory_acknowledge (keepsMemory_of_pushedAgents hagents)⟩
  case regs =>
    simp only [setPc, setSp, setIme, setHalt, pushedAgents_regs, cycles_regs, acknowledge_regs]
    rfl
  case ctl => simp only [setPc_ctl, setSp_ctl, setIme, setHalt, pushedAgents_ctl, cycles_ctl, acknowledge_ctl]
  case clock =>
    simp only [setPc_clock, setSp_clock, setIme_clock, setHalt_clock, pushedAgents_clock, cycles_clock, acknowledge_clock]
    omega

/-! ### Parameters and the boot mapping -/

/-- A bus write unmaps the boot ROM or leaves the mapping (R69). -/
theorem busWrite_bootMapped {s : State} (h : s.bootMapped = false) (a : Word) (v : Byte) :
    (busWrite s a v).bootMapped = false := by
  unfold busWrite
  cases deviceAt s.bootMapped a
  case io r => cases r <;> exact h
  case cartRom k => simp only [deviceWrite, cartRomWrite]; (repeat' split) <;> exact h
  case cartRam k => simp only [deviceWrite]; split <;> exact h
  case bootUnmap => simp only [deviceWrite]; (split; exact h; rfl)
  all_goals exact h

/-- `t` has the parameters of `s`, and maps the boot ROM only if `s` does. -/
def KeepsBoot (s t : State) : Prop := t.params = s.params ∧ (s.bootMapped = false → t.bootMapped = false)

theorem KeepsBoot.trans {s t u : State} (h : KeepsBoot s t) (h' : KeepsBoot t u) : KeepsBoot s u :=
  ⟨h'.1.trans h.1, h'.2 ∘ h.2⟩

theorem keepsBoot_memWrite (a : Word) (v : Byte) (s : State) : KeepsBoot s (memWrite a v s) :=
  ⟨memWrite_params a v s, fun h => by rw [memWrite, cycle_bootMapped, busWrite_bootMapped h]⟩

theorem Runs.keepsBoot {s t : State} {n : Nat} (h : Runs s n t) : KeepsBoot s t := by
  induction h with
  | refl => exact ⟨rfl, id⟩
  | regs _ _ _ ih => exact ih
  | @cycle _ u _ ih => exact ih.trans ⟨cycle_params u, fun hb => by rw [cycle_bootMapped, hb]⟩
  | memWrite a v _ ih => exact ih.trans (keepsBoot_memWrite a v _)

/-- The CPU's control state and the requests look at no other agent. -/
theorem wake_eq (s : State) : wake s = { s with ctl := (wake s).ctl, irq := s.irq } := by unfold wake; split <;> rfl

theorem encode_length_pos (i : Instr) : 1 ≤ (encode i).length := by cases i <;> exact Nat.succ_le_succ (Nat.zero_le _)

/-- An entry spends the internal cycles and the two of its push (R293). -/
theorem runs_interruptEntry (s : State) :
    Runs (setIme false (acknowledge (lowestPending (pendingInterrupts s)) s)) (s.params.intEntryInternalMc + 2)
      (interruptEntry s) := by
  rw [interruptEntry_eq]
  have hinternal := Runs.cycles s.params.intEntryInternalMc
    (.refl (s := setIme false (acknowledge (lowestPending (pendingInterrupts s)) s)))
  rw [Nat.zero_add] at hinternal
  exact .setPc _ (.push16 _ hinternal)

/-- Every step is a run of at least one machine cycle from the same agents, and a change of the control state. -/
theorem step_runs {s t : State} (h : step s = .next t) : ∃ n c r u, 1 ≤ n ∧ n ≤ max 6 (s.params.intEntryInternalMc + 2) ∧
    Runs { s with ctl := c, irq := r } n u ∧ t = { u with ctl := t.ctl } := by
  obtain ⟨-, ⟨-, -, rfl⟩ | ⟨-, -, rfl⟩ | ⟨-, hexec⟩⟩ := step_cases h
  · exact ⟨1, s.ctl, s.irq, cycle s, by omega, by omega, .cycle .refl, rfl⟩
  · exact ⟨s.params.intEntryInternalMc + 2, _, _, _, by omega, by omega, runs_interruptEntry (setHalt false s), rfl⟩
  · obtain ⟨hwf, hstate, -⟩ := fetchInstr_spec (wake s)
    obtain ⟨n, u, hrun, rfl, hcount⟩ := executes_of_exec hexec
    generalize (fetchInstr (wake s)).1 = i at *
    have hfetch := Runs.afterFetches (s := wake s) (encode i).length
    rw [hstate] at hrun
    have hn := hcount hwf
    have hsix := machineCycles_le_six i (fetchInstr (wake s)).2
    have hpos := encode_length_pos i
    refine ⟨(encode i).length + n, (wake s).ctl, s.irq, u, by omega, by omega, ?_, rfl⟩
    rw [← wake_eq]
    exact hfetch.trans hrun

/-- Settles O14: a run keeps the parameters and never maps the boot ROM. -/
theorem bootRomNeverReturns : Obligations.BootRomNeverReturns := by
  intro s t h
  obtain ⟨n, c, r, u, -, -, hrun, ht⟩ := step_runs h
  rw [ht]
  exact hrun.keepsBoot

/-! ### The invariants (R47) -/

/-- The invariants that tell nothing of the control state. -/
structure CoreOk (s : State) : Prop where
  flagsLow : s.FlagsLow
  agentsOk : AgentsOk s
  bootOk : s.BootOk
  imagesOk : Params.Ok s.params

theorem coreOk_of_inv {s : State} (h : s.Inv) : CoreOk s := ⟨h.flagsLow, h.agentsOk, h.bootOk, h.imagesOk⟩

theorem CoreOk.inv {s : State} (h : CoreOk s) (hstatus : s.StatusOk) (hhalt : s.HaltOk) : s.Inv where
  flagsLow := h.flagsLow
  statusOk := hstatus
  haltOk := hhalt
  dmaOk := h.agentsOk.dmaOk
  clockOk := h.agentsOk.clockOk
  lineOk := h.agentsOk.lineOk
  modeOk := h.agentsOk.modeOk
  columnOk := h.agentsOk.columnOk
  spritesOk := h.agentsOk.spritesOk
  pictureOk := h.agentsOk.pictureOk
  memsOk := h.agentsOk.memsOk
  mbcOk := h.agentsOk.mbcOk
  bootOk := h.bootOk
  imagesOk := h.imagesOk

/-- The control state and the requests are in none of these invariants. -/
theorem CoreOk.withCtlIrq {s : State} (h : CoreOk s) (c : Ctl) (r : BitVec 5) : CoreOk { s with ctl := c, irq := r } :=
  ⟨h.flagsLow, ⟨h.agentsOk.dmaOk, h.agentsOk.clockOk, h.agentsOk.lineOk, h.agentsOk.modeOk, h.agentsOk.columnOk,
    h.agentsOk.spritesOk, h.agentsOk.pictureOk, h.agentsOk.memsOk, h.agentsOk.mbcOk⟩, h.bootOk, h.imagesOk⟩

theorem KeepsBoot.bootOk {s t : State} (h : KeepsBoot s t) (hs : s.BootOk) : t.BootOk := by
  intro ht
  rw [h.1]
  cases hmapped : s.bootMapped with
  | true => exact hs hmapped
  | false =>
    rw [h.2 hmapped] at ht
    cases ht

theorem Runs.agentsOk {s t : State} {n : Nat} (h : Runs s n t) (hs : AgentsOk s) : AgentsOk t := by
  induction h with
  | refl => exact hs
  | regs _ _ _ ih => exact ⟨ih.dmaOk, ih.clockOk, ih.lineOk, ih.modeOk, ih.columnOk, ih.spritesOk, ih.pictureOk, ih.memsOk, ih.mbcOk⟩
  | cycle _ ih => exact cycle_agentsOk ih
  | memWrite a v _ ih => exact memWrite_agentsOk ih a v

theorem Runs.flagsLow {s t : State} {n : Nat} (h : Runs s n t) (hs : s.FlagsLow) : t.FlagsLow := by
  unfold State.FlagsLow at *
  induction h with
  | refl => exact hs
  | regs r hf _ ih => exact hf.elim (fun e => e.trans ih) id
  | cycle _ ih => rw [cycle_regs]; exact ih
  | memWrite a v _ ih => rw [memWrite_regs]; exact ih

theorem Runs.coreOk {s t : State} {n : Nat} (h : Runs s n t) (hs : CoreOk s) : CoreOk t :=
  ⟨h.flagsLow hs.flagsLow, h.agentsOk hs.agentsOk, h.keepsBoot.bootOk hs.bootOk, by rw [h.keepsBoot.1]; exact hs.imagesOk⟩

theorem step_coreOk {s t : State} (h : step s = .next t) (hs : CoreOk s) : CoreOk t := by
  obtain ⟨n, c, r, u, -, -, hrun, ht⟩ := step_runs h
  rw [ht]
  exact (hrun.coreOk (hs.withCtlIrq c r)).withCtlIrq t.ctl u.irq

theorem statusOk_of_running {s : State} (hrun : s.ctl.status = .running) (hstop : s.ctl.stop = false) : s.StatusOk := by
  simpa [State.StatusOk, hrun] using hstop

theorem stop_of_running {s : State} (h : s.StatusOk) (hrun : s.ctl.status = .running) : s.ctl.stop = false := by
  simpa [State.StatusOk, hrun] using h

theorem exec_undefined (s : State) {i : Instr} {byte : Byte} (h : (i, byte) ∈ undefinedInstrs) :
    exec i s = .next (undefinedOpcode byte s) := by
  unfold undefinedInstrs at h
  repeat (rcases h with _ | ⟨_, h⟩; · rfl)
  cases h

theorem mem_undefinedBytes {i : Instr} {byte : Byte} (h : (i, byte) ∈ undefinedInstrs) : byte ∈ undefinedBytes := by
  unfold undefinedInstrs at h
  repeat (rcases h with _ | ⟨_, h⟩; · decide)
  cases h

theorem haltOk_of_awake {s : State} (h : s.ctl.halt = false) : s.HaltOk := fun hhalt => by rw [h] at hhalt; cases hhalt

/-- An instruction of a running, unhalted CPU leaves a control state that meets the invariants. -/
theorem exec_ctlOk {i : Instr} {s t : State} (hrun : s.ctl.status = .running) (hstop : s.ctl.stop = false)
    (hhalt : s.ctl.halt = false) (h : exec i s = .next t) : t.StatusOk ∧ t.HaltOk := by
  have hctl := executes_ctl h
  rcases ctlAfter_cases i s with ⟨-, e⟩ | ⟨-, e⟩ | ⟨rfl, -⟩ | ⟨-, e⟩ | ⟨byte, hmem, -⟩ | ⟨-, e⟩
  case inr.inr.inl =>
    cases h
    unfold haltCpu
    split
    · exact ⟨statusOk_of_running hrun hstop, haltOk_of_awake hhalt⟩
    · next hie => exact ⟨statusOk_of_running (s := setHalt true s) hrun hstop, fun _ => hie⟩
  case inr.inr.inr.inl =>
    rw [e] at hctl
    exact ⟨by simp [State.StatusOk, hctl], haltOk_of_awake (by rw [hctl]; exact hhalt)⟩
  case inr.inr.inr.inr.inl =>
    rw [exec_undefined s hmem] at h
    cases h
    have hpc : s.regs.pc = s.regs.pc - 1 + 1 := (BitVec.sub_add_cancel _ _).symm
    exact ⟨⟨hstop, mem_undefinedBytes hmem, hpc⟩, haltOk_of_awake hhalt⟩
  all_goals
    rw [e] at hctl
    exact ⟨statusOk_of_running (by rw [hctl]; exact hrun) (by rw [hctl]; exact hstop), haltOk_of_awake (by rw [hctl]; exact hhalt)⟩

/-- Settles O13: the agents and the registers by runs, the control state by the branches of the step. -/
theorem stepKeepsInvariants : Obligations.StepKeepsInvariants := by
  intro s t hs h
  have hstop := stop_of_running hs.statusOk (step_cases h).1
  suffices hctl : t.StatusOk ∧ t.HaltOk from (step_coreOk h (coreOk_of_inv hs)).inv hctl.1 hctl.2
  obtain ⟨hrun, ⟨-, -, rfl⟩ | ⟨-, -, rfl⟩ | ⟨hawake, hexec⟩⟩ := step_cases h
  · exact ⟨statusOk_of_running (by rw [cycle_ctl, hrun]) (by rw [cycle_ctl, hstop]),
      fun hhalt => by rw [cycle_ctl] at hhalt; rw [cycle_ie]; exact hs.haltOk hhalt⟩
  · have hctl := interruptEntry_ctl (setHalt false s)
    exact ⟨statusOk_of_running (by rw [hctl]; exact hrun) (by rw [hctl]; exact hstop), haltOk_of_awake (by rw [hctl]; rfl)⟩
  · obtain ⟨-, hstate, -⟩ := fetchInstr_spec (wake s)
    have hfetched : (fetchInstr (wake s)).2.ctl = (wake s).ctl := by rw [hstate, (Runs.afterFetches _).ctl]
    have hwakeStop : (wake s).ctl.stop = false := by unfold wake; split <;> exact hstop
    exact exec_ctlOk (by rw [hfetched, wake_status, hrun]) (by rw [hfetched, hwakeStop]) (by rw [hfetched, hawake]) hexec

/-- Every piece of state that construction gives is in range (R51, R52). -/
theorem initial_inv {p : Params} (hp : Params.Ok p) : (State.initial p).Inv where
  flagsLow := by unfold State.FlagsLow State.initial; dsimp only; split <;> decide
  statusOk := rfl
  haltOk := nofun
  dmaOk := ⟨Nat.zero_le _, nofun⟩
  clockOk := (by decide : 0 < 70224)
  lineOk := by simp [Ppu.LineOk, State.initial, Ppu.initial]
  modeOk := .inr ⟨rfl, rfl⟩
  columnOk := ⟨Nat.zero_le _, fun _ h => absurd rfl h⟩
  spritesOk := Nat.zero_le _
  pictureOk := rfl
  memsOk := ⟨rfl, rfl, rfl, rfl, rfl⟩
  mbcOk := (by decide : (1 : Byte) &&& 0x1F ≠ 0)
  bootOk := id
  imagesOk := hp

/-- Settles O12: construction gives `State.initial`. -/
theorem resetMeetsInvariants : Obligations.ResetMeetsInvariants := by
  refine ⟨initial_inv ⟨rfl, nofun⟩, fun p s hp h => ?_⟩
  unfold State.construct at h
  split at h
  · cases h
  · cases h
    exact initial_inv hp

end Sys2Proof.Proofs
end

section
/-! PROOFS. The clock counter is looked at modulo 1024 alone (R30): every operation of the machine commutes with moving the
clock by a multiple of 1024. -/

namespace Sys2Proof.Proofs

open Sys2Proof.Machine

/-- The state with its clock `1024 * k` ticks further. -/
def shiftClock (k : Nat) (s : State) : State := { s with clock := s.clock + 1024 * k }

variable (k : Nat) (s : State)

/-! ### What is read of a shifted state -/

@[simp] theorem shiftClock_regs : (shiftClock k s).regs = s.regs := rfl
@[simp] theorem shiftClock_ctl : (shiftClock k s).ctl = s.ctl := rfl
@[simp] theorem shiftClock_ie : (shiftClock k s).ie = s.ie := rfl
@[simp] theorem shiftClock_irq : (shiftClock k s).irq = s.irq := rfl
@[simp] theorem shiftClock_params : (shiftClock k s).params = s.params := rfl
@[simp] theorem shiftClock_flags : (shiftClock k s).flags = s.flags := rfl
@[simp] theorem shiftClock_hlPair : hlPair (shiftClock k s) = hlPair s := rfl
@[simp] theorem shiftClock_busRead (a : Word) : busRead (shiftClock k s) a = busRead s a := rfl
@[simp] theorem shiftClock_getReg (r : Reg8) : getReg r (shiftClock k s) = getReg r s := rfl
@[simp] theorem shiftClock_getPair (p : Pair) : getPair p (shiftClock k s) = getPair p s := rfl
@[simp] theorem shiftClock_getStackPair (p : StackPair) : getStackPair p (shiftClock k s) = getStackPair p s := rfl
@[simp] theorem shiftClock_condHolds (cc : Cond) : condHolds cc (shiftClock k s) = condHolds cc s := rfl
@[simp] theorem shiftClock_fetchedByte : fetchedByte (shiftClock k s) = fetchedByte s := rfl
@[simp] theorem shiftClock_interruptPending : interruptPending (shiftClock k s) = interruptPending s := rfl

/-! ### Updates of a shifted state -/

@[simp] theorem setPc_shiftClock (v : Word) : setPc v (shiftClock k s) = shiftClock k (setPc v s) := rfl
@[simp] theorem setSp_shiftClock (v : Word) : setSp v (shiftClock k s) = shiftClock k (setSp v s) := rfl
@[simp] theorem setIme_shiftClock (b : Bool) : setIme b (shiftClock k s) = shiftClock k (setIme b s) := rfl
@[simp] theorem setHalt_shiftClock (b : Bool) : setHalt b (shiftClock k s) = shiftClock k (setHalt b s) := rfl
@[simp] theorem setFlags_shiftClock (fl : Flags) : setFlags fl (shiftClock k s) = shiftClock k (setFlags fl s) := rfl
@[simp] theorem setReg_shiftClock (r : Reg8) (v : Byte) : setReg r v (shiftClock k s) = shiftClock k (setReg r v s) := by
  cases r <;> rfl
@[simp] theorem setPair_shiftClock (p : Pair) (v : Word) : setPair p v (shiftClock k s) = shiftClock k (setPair p v s) := by
  cases p <;> rfl
@[simp] theorem setStackPair_shiftClock (p : StackPair) (v : Word) :
    setStackPair p v (shiftClock k s) = shiftClock k (setStackPair p v s) := by
  cases p <;> rfl
@[simp] theorem setAF_shiftClock (r : Byte × Flags) : setAF r (shiftClock k s) = shiftClock k (setAF r s) := rfl
@[simp] theorem acknowledge_shiftClock (n : Nat) : acknowledge n (shiftClock k s) = shiftClock k (acknowledge n s) := rfl

@[simp] theorem busWrite_shiftClock (a : Word) (v : Byte) : busWrite (shiftClock k s) a v = shiftClock k (busWrite s a v) := by
  have hdev : deviceAt (shiftClock k s).bootMapped a = deviceAt s.bootMapped a := rfl
  unfold busWrite
  rw [hdev]
  cases deviceAt s.bootMapped a
  case io r => cases r <;> rfl
  case cartRom j =>
    have hkind : (shiftClock k s).params.cartKind = s.params.cartKind := rfl
    simp only [deviceWrite, cartRomWrite, hkind]
    (repeat' split) <;> rfl
  case cartRam j =>
    have hen : cartRamEnabled (shiftClock k s) = cartRamEnabled s := rfl
    simp only [deviceWrite, hen]
    split <;> rfl
  case bootUnmap => simp only [deviceWrite]; split <;> rfl
  all_goals rfl

/-! ### Time -/

theorem timerDivisor_dvd (tac : BitVec 3) : timerDivisor tac ∣ 1024 := by
  revert tac
  decide

/-- A period that divides 1024 does not see a shift by multiples of 1024. -/
theorem add_shift_mod {d : Nat} (hd : d ∣ 1024) (clock : Nat) : (clock + 1024 * k + 1) % d = (clock + 1) % d := by
  obtain ⟨c, hc⟩ := hd
  rw [hc, Nat.mul_assoc, Nat.add_right_comm, Nat.add_mul_mod_self_left]

theorem divStep_shift (clock : Nat) (div : Byte) : divStep (clock + 1024 * k) div = divStep clock div := by
  unfold divStep
  rw [add_shift_mod k (by decide)]

theorem timaCounts_shift (clock : Nat) (tac : BitVec 3) : timaCounts (clock + 1024 * k) tac = timaCounts clock tac := by
  unfold timaCounts
  rw [add_shift_mod k (timerDivisor_dvd tac)]

@[simp] theorem tick_shiftClock : tick (shiftClock k s) = shiftClock k (tick s) := by
  have hdma : dmaStep (shiftClock k s) = shiftClock k (dmaStep s) := by
    unfold dmaStep
    show (if s.dma.active then _ else _) = _
    split <;> rfl
  have hppu (u : State) : ppuStep (shiftClock k u) = shiftClock k (ppuStep u) := rfl
  have htimer (u : State) : timerStep (shiftClock k u) = shiftClock k (timerStep u) := by
    show timerStep { u with clock := u.clock + 1024 * k } = _
    simp only [timerStep, timaStep, timaOverflows, divStep_shift, timaCounts_shift, shiftClock]
    rfl
  have hclock (u : State) : clockStep (shiftClock k u) = shiftClock k (clockStep u) := by
    simp only [clockStep, shiftClock, Nat.add_right_comm]
  simp only [tick, audioStep, hdma, hppu, htimer, hclock]

@[simp] theorem cycle_shiftClock : cycle (shiftClock k s) = shiftClock k (cycle s) := by simp only [cycle, tick_shiftClock]

@[simp] theorem cycles_shiftClock (n : Nat) : cycles n (shiftClock k s) = shiftClock k (cycles n s) := by
  induction n generalizing s with
  | zero => rfl
  | succ n ih => simp only [cycles, cycle_shiftClock, ih]

/-! ### Accesses -/

@[simp] theorem memWrite_shiftClock (a : Word) (v : Byte) : memWrite a v (shiftClock k s) = shiftClock k (memWrite a v s) := by
  simp only [memWrite, busWrite_shiftClock, cycle_shiftClock]

@[simp] theorem push16_shiftClock (v : Word) : push16 v (shiftClock k s) = shiftClock k (push16 v s) := by
  simp only [push16_eq, shiftClock_regs, memWrite_shiftClock, setSp_shiftClock]

@[simp] theorem putOperand_shiftClock (o : Operand) (v : Byte) :
    putOperand o v (shiftClock k s) = shiftClock k (putOperand o v s) := by
  cases o <;> simp [putOperand]

theorem withOperand_shiftClock {f : Byte → State → State} (o : Operand)
    (hf : ∀ v t, f v (shiftClock k t) = shiftClock k (f v t)) :
    withOperand o f (shiftClock k s) = shiftClock k (withOperand o f s) := by
  cases o <;> simp [withOperand, withRead, hf]

theorem withPop16_shiftClock {f : Word → State → State} (hf : ∀ v t, f v (shiftClock k t) = shiftClock k (f v t)) :
    withPop16 f (shiftClock k s) = shiftClock k (withPop16 f s) := by
  simp [withPop16_eq, hf]

@[simp] theorem afterFetch_shiftClock : afterFetch (shiftClock k s) = shiftClock k (afterFetch s) := by simp [afterFetch]

@[simp] theorem afterFetches_shiftClock (n : Nat) : afterFetches n (shiftClock k s) = shiftClock k (afterFetches n s) := by
  induction n generalizing s with
  | zero => rfl
  | succ n ih => simp only [afterFetches, afterFetch_shiftClock, ih]

/-! ### The meanings -/

@[simp] theorem loadA_shiftClock (addr : Word) : loadA addr (shiftClock k s) = shiftClock k (loadA addr s) := by
  simp [loadA, withRead]

@[simp] theorem storeA_shiftClock (addr : Word) : storeA addr (shiftClock k s) = shiftClock k (storeA addr s) := by
  simp [storeA]

@[simp] theorem moveHL_shiftClock (d : Word) : moveHL d (shiftClock k s) = shiftClock k (moveHL d s) := by simp [moveHL]

theorem moveHL_loadA_shiftClock (d addr : Word) :
    moveHL d (loadA addr (shiftClock k s)) = shiftClock k (moveHL d (loadA addr s)) := by simp

theorem moveHL_storeA_shiftClock (d addr : Word) :
    moveHL d (storeA addr (shiftClock k s)) = shiftClock k (moveHL d (storeA addr s)) := by simp

theorem ldAtNnSP_shiftClock (nn : Word) : ldAtNnSP nn (shiftClock k s) = shiftClock k (ldAtNnSP nn s) := by
  simp [ldAtNnSP, memWrite16]

theorem ldSPHL_shiftClock : ldSPHL (shiftClock k s) = shiftClock k (ldSPHL s) := by simp [ldSPHL]

theorem ldHLSPE_shiftClock (e : Byte) : ldHLSPE e (shiftClock k s) = shiftClock k (ldHLSPE e s) := by simp [ldHLSPE]

theorem addSPE_shiftClock (e : Byte) : addSPE e (shiftClock k s) = shiftClock k (addSPE e s) := by simp [addSPE]

theorem jump_shiftClock (nn : Word) : jump nn (shiftClock k s) = shiftClock k (jump nn s) := by simp [jump]

theorem jumpRelative_shiftClock (e : Byte) : jumpRelative e (shiftClock k s) = shiftClock k (jumpRelative e s) := by
  simp [jumpRelative]

theorem haltCpu_shiftClock : haltCpu (shiftClock k s) = shiftClock k (haltCpu s) := by
  have hie : (shiftClock k s).ie = s.ie := rfl
  by_cases h : s.ie = 0
  · rw [haltCpu, haltCpu, if_pos h, if_pos (hie.trans h)]
    rfl
  · rw [haltCpu, haltCpu, if_neg h, if_neg (hie ▸ h)]
    rfl

@[simp] theorem rotateOperand_shiftClock (op : RotOp) (o : Operand) :
    rotateOperand op o (shiftClock k s) = shiftClock k (rotateOperand op o s) :=
  withOperand_shiftClock k s o fun v t => by simp

@[simp] theorem bitTest_shiftClock (b : Fin 8) (o : Operand) : bitTest b o (shiftClock k s) = shiftClock k (bitTest b o s) :=
  withOperand_shiftClock k s o fun v t => by simp

@[simp] theorem bitReset_shiftClock (b : Fin 8) (o : Operand) :
    bitReset b o (shiftClock k s) = shiftClock k (bitReset b o s) :=
  withOperand_shiftClock k s o fun v t => by simp

@[simp] theorem bitSet_shiftClock (b : Fin 8) (o : Operand) : bitSet b o (shiftClock k s) = shiftClock k (bitSet b o s) :=
  withOperand_shiftClock k s o fun v t => by simp

@[simp] theorem callTo_shiftClock (target : Word) : callTo target (shiftClock k s) = shiftClock k (callTo target s) := by
  simp [callTo]

@[simp] theorem returnFromCall_shiftClock : returnFromCall (shiftClock k s) = shiftClock k (returnFromCall s) :=
  withPop16_shiftClock k s fun v t => by simp

theorem returnFromInterrupt_shiftClock : returnFromInterrupt (shiftClock k s) = shiftClock k (returnFromInterrupt s) := by
  simp only [returnFromInterrupt_eq, returnFromCall_shiftClock, setIme_shiftClock]

@[simp] theorem prefixCB_shiftClock : prefixCB (shiftClock k s) = shiftClock k (prefixCB s) := by
  simp only [prefixCB, cbOperation, shiftClock_fetchedByte, afterFetch_shiftClock]
  split <;> simp

theorem exec_shiftClock_next (i : Instr) :
    ∃ t, exec i s = .next t ∧ exec i (shiftClock k s) = .next (shiftClock k t) := by
  refine exec_cases (P := fun i t => exec i (shiftClock k s) = .next (shiftClock k t)) s ?ldRegs ?ldLoad ?ldStore ?ldN
    ?ldAAtBC ?ldAAtDE ?ldAtBCA ?ldAtDEA ?ldAAtNn ?ldAtNnA ?ldhAAtN ?ldhAtNA ?ldAAtC ?ldAtCA ?ldAtHLIncA ?ldAAtHLInc
    ?ldAtHLDecA ?ldAAtHLDec ?ldPair ?ldAtNnSP ?ldSPHL ?ldHLSPE ?pushP ?popP ?alu ?aluN ?inc ?dec ?daa ?cpl ?scf ?ccf ?addHL
    ?incPair ?decPair ?addSPE ?rlca ?rrca ?rla ?rra ?rot ?bitB ?resB ?setB ?jp ?jpIf ?jpHL ?jr ?jrIf ?call ?callIf ?ret
    ?retIf ?reti ?rst ?nop ?halt ?stop ?di ?ei ?cb ?undef i
  case ldRegs => intro dst r; simp [exec_ldInstr_reg, ldRegReg]
  case ldLoad => intro dst; simp [exec_ldInstr_load, ldRegAtHL, withRead]
  case ldStore => intro r; simp [exec_ldInstr_store, ldAtHLReg]
  case ldN => intro o n; simp [exec_ldNInstr, ldOperandN]
  case ldAAtBC | ldAAtDE | ldAAtC => exact congrArg _ (loadA_shiftClock k s _)
  case ldAtBCA | ldAtDEA | ldAtCA => exact congrArg _ (storeA_shiftClock k s _)
  case ldAAtNn | ldhAAtN => exact fun _ => congrArg _ (loadA_shiftClock k s _)
  case ldAtNnA | ldhAtNA => exact fun _ => congrArg _ (storeA_shiftClock k s _)
  case ldAtHLIncA | ldAtHLDecA => exact congrArg _ (moveHL_storeA_shiftClock k s _ _)
  case ldAAtHLInc | ldAAtHLDec => exact congrArg _ (moveHL_loadA_shiftClock k s _ _)
  case ldPair => intro p nn; simp [exec_ldPairInstr, ldPairNn]
  case ldAtNnSP => exact fun nn => congrArg _ (ldAtNnSP_shiftClock k s nn)
  case ldSPHL => exact congrArg _ (ldSPHL_shiftClock k s)
  case ldHLSPE => exact fun e => congrArg _ (ldHLSPE_shiftClock k s e)
  case pushP => intro p; simp [exec_pushInstr, pushPair]
  case popP => intro p; simpa [exec_popInstr, popPair] using withPop16_shiftClock k s fun v t => by simp
  case alu => intro op o; simpa [exec_aluInstr, aluOperand] using withOperand_shiftClock k s o fun v t => by simp
  case aluN => intro op n; simp [exec_aluNInstr, aluImmediate]
  case inc => intro o; simpa [exec_incInstr, incOperand] using withOperand_shiftClock k s o fun v t => by simp
  case dec => intro o; simpa [exec_decInstr, decOperand] using withOperand_shiftClock k s o fun v t => by simp
  case daa | cpl | rlca | rrca | rla | rra | scf | ccf => rfl
  case addHL => intro p; simp [exec_addHLInstr, addHLPair]
  case incPair => intro p; simp [exec_incPairInstr, incPair]
  case decPair => intro p; simp [exec_decPairInstr, decPair]
  case addSPE => exact fun e => congrArg _ (addSPE_shiftClock k s e)
  case rot => intro op o; simp [exec_rotInstr]
  case bitB => intro b o; simp [exec_bitInstr]
  case resB => intro b o; simp [exec_resInstr]
  case setB => intro b o; simp [exec_setInstr]
  case jp => exact fun nn => congrArg _ (jump_shiftClock k s nn)
  case jpIf =>
    intro cc nn
    simp only [exec_jpInstr, jumpIf, shiftClock_condHolds, jump_shiftClock]
    split <;> rfl
  case jpHL | nop | stop | di | ei => rfl
  case jr => exact fun e => congrArg _ (jumpRelative_shiftClock k s e)
  case jrIf =>
    intro cc e
    simp only [exec_jrInstr, jumpRelativeIf, shiftClock_condHolds, jumpRelative_shiftClock]
    split <;> rfl
  case call => exact fun nn => congrArg _ (callTo_shiftClock k s nn)
  case callIf =>
    intro cc nn
    simp only [exec_callInstr, callIf, shiftClock_condHolds, callTo_shiftClock]
    split <;> rfl
  case ret => exact congrArg _ (returnFromCall_shiftClock k s)
  case retIf =>
    intro cc
    simp only [exec_retInstr, returnIf, cycle_shiftClock, shiftClock_condHolds, returnFromCall_shiftClock]
    split <;> rfl
  case reti => exact congrArg _ (returnFromInterrupt_shiftClock k s)
  case rst => intro y; simp [exec_rstInstr, restart]
  case halt => exact congrArg _ (haltCpu_shiftClock k s)
  case cb => exact congrArg _ (prefixCB_shiftClock k s)
  case undef => intro i byte h; rw [exec_undefined _ h]; rfl

theorem exec_shiftClock {i : Instr} {t : State} (h : exec i s = .next t) :
    exec i (shiftClock k s) = .next (shiftClock k t) := by
  obtain ⟨t', h', hshift⟩ := exec_shiftClock_next k s i
  rw [h] at h'
  cases h'
  exact hshift

/-! ### The step -/

@[simp] theorem wake_shiftClock : wake (shiftClock k s) = shiftClock k (wake s) := by
  cases hp : interruptPending s <;> simp [wake, hp]

@[simp] theorem fetchInstr_shiftClock : fetchInstr (shiftClock k s) = ((fetchInstr s).1, shiftClock k (fetchInstr s).2) := by
  simp only [fetchInstr, fetchedByteAt, afterFetches_shiftClock, shiftClock_fetchedByte]
  split <;> rfl

@[simp] theorem interruptEntry_shiftClock : interruptEntry (shiftClock k s) = shiftClock k (interruptEntry s) := by
  have hpending : pendingInterrupts (shiftClock k s) = pendingInterrupts s := rfl
  simp only [interruptEntry, hpending, shiftClock_params, shiftClock_regs, acknowledge_shiftClock, setIme_shiftClock,
    cycles_shiftClock, push16_shiftClock, setPc_shiftClock]

/-- Settles O15: every branch of the step commutes with the shift. -/
theorem clockSeenModulo1024 : Obligations.ClockSeenModulo1024 := by
  intro s t k h
  change step (shiftClock k s) = .next (shiftClock k t)
  have hrun := (step_cases h).1
  simp only [step, hrun] at h
  simp only [step, shiftClock_ctl, hrun, wake_shiftClock, shiftClock_interruptPending, cycle_shiftClock,
    interruptEntry_shiftClock, fetchInstr_shiftClock]
  split at h
  · next hhalt => rw [if_pos hhalt]; cases h; rfl
  · next hhalt =>
    rw [if_neg hhalt]
    split at h
    · next hentry => rw [if_pos hentry]; cases h; rfl
    · next hentry => rw [if_neg hentry]; exact exec_shiftClock k _ h

end Sys2Proof.Proofs
end

section
/-! PROOFS. The statements of 40_load8.md and 41_load16.md: loads, stores and the stack (R131 to R149, R160 to R166, R203),
by the frames of the register updates they are made of. -/

namespace Sys2Proof.Proofs

open Sys2Proof.Machine

/-! ### Frames of the CPU's own state -/

section
variable {w w' : List Reg8} {s t u : State}

/-- Time in front of an update is not seen by the frame. -/
theorem onlyRegs_of_cpu (hregs : u.regs = s.regs) (hctl : u.ctl = s.ctl) (h : OnlyRegs w u t) : OnlyRegs w s t := by
  obtain ⟨hreg, hf, hsp, hpc, hc⟩ := h
  exact ⟨fun q hq => (hreg q hq).trans (getReg_congr hregs q), hf.trans (by rw [hregs]), hsp.trans (by rw [hregs]),
    hpc.trans (by rw [hregs]), hc.trans hctl⟩

theorem onlyRegs_of_cycles {k : Nat} (h : OnlyRegs w (cycles k s) t) : OnlyRegs w s t :=
  onlyRegs_of_cpu (cycles_regs k s) (cycles_ctl k s) h

theorem onlyRegs_trans (h : OnlyRegs w s t) (h' : OnlyRegs w' t u) : OnlyRegs (w ++ w') s u := by
  obtain ⟨hreg, hf, hsp, hpc, hc⟩ := h
  obtain ⟨hreg', hf', hsp', hpc', hc'⟩ := h'
  refine ⟨fun q hq => ?_, hf'.trans hf, hsp'.trans hsp, hpc'.trans hpc, hc'.trans hc⟩
  rw [List.mem_append, not_or] at hq
  exact (hreg' q hq.2).trans (hreg q hq.1)

theorem onlyRegs_refl (s : State) : OnlyRegs [] s s := ⟨fun _ _ => rfl, rfl, rfl, rfl, rfl⟩

theorem onlyRegs_setReg (r : Reg8) (v : Byte) (s : State) : OnlyRegs [r] s (setReg r v s) :=
  ⟨fun q hq => by rw [getReg_setReg, if_neg (by simpa using hq)], setReg_f r v s, setReg_sp r v s, setReg_pc r v s,
    setReg_ctl r v s⟩

theorem onlyRegsAndFlags_setFlags (fl : Flags) (h : OnlyRegs w s t) : OnlyRegsAndFlags w fl s (setFlags fl t) := by
  obtain ⟨hreg, hf, hsp, hpc, hc⟩ := h
  refine ⟨fun q hq => (getReg_setFlags q fl t).trans (hreg q hq), ⟨setFlags_flags fl t, ?_⟩, hsp, hpc, hc⟩
  rw [setFlags_regs_f, putFlags_low, hf]

end

/-! ### Writing a pair (R21) -/

theorem getPair_setPair_same (p : Pair) (v : Word) (s : State) : getPair p (setPair p v s) = v := by
  cases p
  case sp => rfl
  all_goals exact mkWord_hiByte_loByte v

/-- Of the CPU's own state nothing changes but the pair `p`. -/
def OnlyPair (p : Pair) (s t : State) : Prop :=
  KeepsRegs (pairRegs p) s t ∧ KeepsF s t ∧ (p ≠ .sp → KeepsSp s t) ∧ KeepsPc s t ∧ KeepsCtl s t

theorem onlyPair_setPair (p : Pair) (v : Word) (s : State) : OnlyPair p s (setPair p v s) := by
  refine ⟨fun q hq => ?_, setPair_f p v s, fun hp => ?_, setPair_pc p v s, setPair_ctl p v s⟩
  · revert hq
    cases p <;> cases q <;> simp [pairRegs, setPair, setSp, getReg]
  · cases p
    case sp => exact absurd rfl hp
    all_goals rfl

theorem OnlyPair.of_cycle {p : Pair} {s t : State} (h : OnlyPair p (cycle s) t) : OnlyPair p s t := by
  obtain ⟨hreg, hf, hsp, hpc, hc⟩ := h
  have hregs := cycle_regs s
  exact ⟨fun q hq => (hreg q hq).trans (getReg_congr hregs q), hf.trans (by rw [hregs]),
    fun hp => (hsp hp).trans (by rw [hregs]), hpc.trans (by rw [hregs]), hc.trans (cycle_ctl s)⟩

theorem onlyRegs_setPair_hl (v : Word) (s : State) : OnlyRegs [.h, .l] s (setPair .hl v s) := by
  obtain ⟨hreg, hf, hsp, hpc, hc⟩ := onlyPair_setPair .hl v s
  exact ⟨hreg, hf, hsp (by decide), hpc, hc⟩

theorem hlPair_setPair_hl (v : Word) (s : State) : hlPair (setPair .hl v s) = v := mkWord_hiByte_loByte v

theorem hlPair_congr {s t : State} (h : s.regs = t.regs) : hlPair s = hlPair t := getPair_congr h .hl

/-! ### 8-bit loads and stores -/

/-- Settles O17: both forms set one register. -/
theorem registerLoads : Obligations.RegisterLoads := by
  intro s dst
  have load (v : Byte) : getReg dst (setReg dst v s) = v ∧ OnlyRegs [dst] s (setReg dst v s) ∧
      AgentsOf s (setReg dst v s) ∧ KeepsMemory [] s (setReg dst v s) := by
    have hagents := agentsOf_setReg dst v (agentsOf_refl s)
    exact ⟨by simp, onlyRegs_setReg dst v s, hagents, keepsMemory_of_cycles (n := 0) hagents⟩
  exact ⟨fun src => ⟨_, exec_ldInstr_reg s dst src, load _⟩, fun n => ⟨_, exec_ldNInstr s (.reg dst) n, load n⟩⟩

/-- The page address as a number (R103). -/
theorem highPage_eq (n : Byte) : highPage n = BitVec.ofNat 16 (0xFF00 + n.toNat) :=
  BitVec.eq_of_toNat_eq (by simp [highPage, BitVec.toNat_add, BitVec.toNat_setWidth])

/-- Settles O18: each load reads its address and sets one register a machine cycle later. -/
theorem memoryLoads : Obligations.MemoryLoads := by
  intro s
  refine ⟨fun dst => loads_of (exec_ldInstr_load s dst), loads_of rfl, loads_of rfl, fun nn => loads_of rfl,
    fun n => loads_of ?_, loads_of ?_⟩
  · rw [← highPage_eq]; rfl
  · rw [← highPage_eq]; rfl

/-- Settles O19: each store is one bus write. -/
theorem memoryStores : Obligations.MemoryStores := by
  intro s
  refine ⟨fun src => stores_of (exec_ldInstr_store s src), fun n => stores_of (exec_ldNInstr s .atHL n), stores_of rfl,
    stores_of rfl, fun nn => stores_of rfl, fun n => stores_of ?_, stores_of ?_⟩
  · rw [← highPage_eq]; rfl
  · rw [← highPage_eq]; rfl

/-- An integer sum modulo the width. -/
theorem ofInt_toNat_add {n : Nat} (w : BitVec n) (d : Int) : BitVec.ofInt n (w.toNat + d) = w + BitVec.ofInt n d := by
  rw [BitVec.ofInt_add, BitVec.ofInt_natCast, BitVec.ofNat_toNat, BitVec.setWidth_eq]

/-- A store at `HL`, then `HL` moved (R146, R148). -/
theorem steppingStore (s : State) (d : Word) {t : State} (ht : t = moveHL d (storeA (hlPair s) s)) :
    hlPair t = hlPair s + d ∧ OnlyRegs [.h, .l] s t ∧ AgentsOf (cycle (busWrite s (hlPair s) s.regs.a)) t ∧
      KeepsMemory [hlPair s] s t := by
  have hhl : hlPair (storeA (hlPair s) s) = hlPair s := hlPair_congr (memWrite_regs _ _ _)
  have hagents : AgentsOf (memWrite (hlPair s) s.regs.a s) t := by
    rw [ht]
    exact agentsOf_setPair .hl _ (agentsOf_refl _)
  refine ⟨by rw [ht, moveHL, hlPair_setPair_hl, hhl], ?_, hagents, keepsMemory_of_memWrite (n := 0) hagents⟩
  rw [ht]
  exact onlyRegs_of_cpu (memWrite_regs _ _ _) (memWrite_ctl _ _ _) (onlyRegs_setPair_hl _ _)

/-- A load from `HL`, then `HL` moved (R147, R149). -/
theorem steppingLoad (s : State) (d : Word) {t : State} (ht : t = moveHL d (loadA (hlPair s) s)) :
    t.regs.a = busRead s (hlPair s) ∧ hlPair t = hlPair s + d ∧ OnlyRegs [.a, .h, .l] s t ∧ AgentsOf (cycle s) t ∧
      KeepsMemory [] s t := by
  have hhl : hlPair (loadA (hlPair s) s) = hlPair s := hlPair_congr (s := cycle s) (cycle_regs s)
  have hagents : AgentsOf (cycle s) t := by
    rw [ht]
    exact agentsOf_setPair .hl _ (agentsOf_setReg .a _ (agentsOf_refl _))
  refine ⟨by rw [ht]; rfl, by rw [ht, moveHL, hlPair_setPair_hl, hhl], ?_, hagents, keepsMemory_of_cycles (n := 1) hagents⟩
  rw [ht]
  exact onlyRegs_of_cycles (k := 1) (onlyRegs_trans (onlyRegs_setReg .a _ _) (onlyRegs_setPair_hl _ _))

/-- Settles O20: the access at the old `HL`, then the move. -/
theorem steppingLoadsAndStores : Obligations.SteppingLoadsAndStores := by
  intro s
  simp only [ofInt_toNat_add]
  constructor
  · rintro i d (⟨rfl, rfl⟩ | ⟨rfl, rfl⟩)
    · exact ⟨_, rfl, steppingStore s 1 rfl⟩
    · exact ⟨_, rfl, steppingStore s (-1) rfl⟩
  · rintro i d (⟨rfl, rfl⟩ | ⟨rfl, rfl⟩)
    · exact ⟨_, rfl, steppingLoad s 1 rfl⟩
    · exact ⟨_, rfl, steppingLoad s (-1) rfl⟩

/-! ### 16-bit loads -/

/-- Settles O21, by the pair written, by `SP` written, and by two stores. -/
theorem pairLoadsAndStore : Obligations.PairLoadsAndStore := by
  intro s
  refine ⟨fun p nn => ?pair, ?sp, fun nn => ?store⟩
  case pair =>
    obtain ⟨hreg, hf, hsp, hpc, hc⟩ := onlyPair_setPair p nn s
    have hagents := agentsOf_setPair p nn (agentsOf_refl s)
    have hhigh := (upperByte_eq_hiByte nn).symm
    refine ⟨_, exec_ldPairInstr s p nn, getPair_setPair_same p nn s, ?_, ?_, ?_, hreg, hf, hsp, hpc, hc, hagents,
      keepsMemory_of_cycles (n := 0) hagents⟩ <;>
    · rintro rfl
      exact hhigh
  case sp =>
    have hagents : AgentsOf (cycle s) (setSp (hlPair s) (cycle s)) := agentsOf_setSp _ (agentsOf_refl _)
    have hexec : exec .ldSPHL s = .next (setSp (hlPair s) (cycle s)) := by
      rw [← cycle_setSp]
      rfl
    refine ⟨_, hexec, ?_, cycle_ctl s, hagents,
      keepsMemory_of_cycles (n := 1) hagents⟩
    rw [setSp, cycle_regs]
    rfl
  case store =>
    rw [upperByte_eq_hiByte, lowerByte_eq_loByte]
    have hagents := agentsOf_refl (memWrite (nn + 1) (hiByte s.regs.sp) (memWrite nn (loByte s.regs.sp) s))
    have hframe : OnlyRegs [] s (memWrite (nn + 1) (hiByte s.regs.sp) (memWrite nn (loByte s.regs.sp) s)) :=
      onlyRegs_of_cpu (by simp only [memWrite_regs]) (by simp only [memWrite_ctl]) (onlyRegs_refl _)
    exact ⟨_, rfl, hframe, hagents, keepsMemory_of_memWrite_memWrite (n := 0) hagents⟩

/-! ### The stack -/

/-- Settles O22: one machine cycle, then the two stores of a push. -/
theorem pushStoresPair : Obligations.PushStoresPair := by
  intro s p
  have hagents : AgentsOf (pushedAgents (getStackPair p s) (cycle s)) _ :=
    agentsOf_setSp (s.regs.sp - 2) (agentsOf_refl _)
  refine ⟨_, ?_, ?_, ?_, hagents, keepsMemory_of_pushedAgents (k := 1) hagents⟩
  · rw [exec_pushInstr, pushPair, push16_eq_pushedAgents, cycle_regs, getStackPair_congr (cycle_regs s)]
  · rw [setSp, pushedAgents_regs, cycle_regs]
  · rw [KeepsCtl, setSp_ctl, pushedAgents_ctl, cycle_ctl]

/-- The word that a pop reads (R15). -/
theorem poppedWord_eq (s : State) : poppedWord s = mkWord (busRead (cycle s) (s.regs.sp + 1)) (busRead s s.regs.sp) := by
  apply BitVec.eq_of_toNat_eq
  have hlow := (busRead s s.regs.sp).isLt
  have hhigh := (busRead (cycle s) (s.regs.sp + 1)).isLt
  rw [poppedWord, mkWord, BitVec.toNat_ofNat, BitVec.toNat_append, ← Nat.shiftLeft_add_eq_or_of_lt hlow, Nat.shiftLeft_eq]
  omega

theorem withPop16_eq_poppedWord (k : Word → State → State) (s : State) :
    withPop16 k s = k (poppedWord s) (setSp (s.regs.sp + 2) (cycles 2 s)) := by
  rw [withPop16_eq, poppedWord_eq]
  rfl

/-- Settles O23: the popped word is written to the pair. -/
theorem popLoadsPair : Obligations.PopLoadsPair := by
  intro s p
  have hagents : AgentsOf (cycles 2 s) (setStackPair p (poppedWord s) (setSp (s.regs.sp + 2) (cycles 2 s))) :=
    agentsOf_setStackPair _ _ (agentsOf_setSp _ (agentsOf_refl _))
  refine ⟨_, ?_, ?_, ?_, hagents, keepsMemory_of_cycles hagents⟩
  · rw [exec_popInstr, popPair, withPop16_eq_poppedWord]
  · have hregs := cycles_regs 2 s
    cases p <;>
      simp only [setStackPair, setPair, setSp, hregs, upperByte_eq_hiByte, lowerByte_eq_loByte]
  · rw [KeepsCtl, setStackPair_ctl, setSp_ctl, cycles_ctl]

/-- The signed sum of a word and a byte (R163). -/
theorem add_sext16_eq (w : Word) (e : Byte) : w + sext16 e = BitVec.ofInt 16 (w.toNat + e.toInt) := by
  rw [ofInt_toNat_add]
  rfl

/-- Settles O24: both forms write the sum and the flags of `addSPResult`. -/
theorem stackPointerOffset : Obligations.StackPointerOffset := by
  intro s e sum fl
  have hresult : addSPResult s.regs.sp e = (sum, fl) := by rw [addSPResult, add_sext16_eq]; rfl
  constructor
  · have hexec : exec (.ldHLSPE e) s = .next (setFlags fl (setPair .hl sum (cycle s))) := by
      rw [← cycle_setPair, ← cycle_setFlags]
      show Host.Outcome.next (ldHLSPE e s) = _
      rw [ldHLSPE, hresult]
    have hagents : AgentsOf (cycle s) (setFlags fl (setPair .hl sum (cycle s))) :=
      agentsOf_setFlags _ (agentsOf_setPair _ _ (agentsOf_refl _))
    have hframe : OnlyRegs [.h, .l] s (setPair .hl sum (cycle s)) := onlyRegs_of_cycles (k := 1) (onlyRegs_setPair_hl sum _)
    exact ⟨_, hexec, hlPair_setPair_hl sum (cycle s), onlyRegsAndFlags_setFlags fl hframe, hagents,
      keepsMemory_of_cycles (n := 1) hagents⟩
  · have hexec : exec (.addSPE e) s = .next (setFlags fl (setSp sum (cycles 2 s))) := by
      rw [← cycles_setSp, ← cycles_setFlags]
      show Host.Outcome.next (addSPE e s) = _
      rw [addSPE, hresult]
      rfl
    have hagents : AgentsOf (cycles 2 s) (setFlags fl (setSp sum (cycles 2 s))) :=
      agentsOf_setFlags _ (agentsOf_setSp _ (agentsOf_refl _))
    refine ⟨_, hexec, rfl, fun q _ => ?_, ⟨setFlags_flags _ _, ?_⟩, ?_, ?_, hagents, keepsMemory_of_cycles hagents⟩
    · rw [getReg_setFlags, getReg_setSp, getReg_congr (cycles_regs 2 s)]
    · rw [setFlags_regs_f, putFlags_low, setSp_regs_f, cycles_regs]
    · rw [KeepsPc, setFlags_regs_pc, setSp_regs_pc, cycles_regs]
    · rw [KeepsCtl, setFlags_ctl, setSp_ctl, cycles_ctl]

end Sys2Proof.Proofs
end

section
/-! PROOFS. The statements of 42_alu8.md, 43_alu16.md and 44_rotate_bit.md: the results and flags of the arithmetic, rotate and
bit instructions (R170 to R189, R200 to R202, R210 to R230), in numbers and bit by bit. -/

namespace Sys2Proof.Proofs

open Sys2Proof.Machine

/-! ### Addition and subtraction -/

/-- What holds of every operand form follows from what holds of every operand form. -/
theorem aluForms_mono {op : AluOp} {s : State} {P Q : Instr → Byte → Nat → Prop} (h : AluForms op s P)
    (hPQ : ∀ i v k, P i v k → Q i v k) : AluForms op s Q := by
  obtain ⟨hreg, hmem, himm⟩ := h
  exact ⟨fun r => hPQ _ _ _ (hreg r), hPQ _ _ _ hmem, fun n => hPQ _ _ _ (himm n)⟩

theorem ofNat_eq_zero_iff (n : Nat) : BitVec.ofNat 8 n = 0 ↔ n % 256 = 0 := by
  rw [← BitVec.toNat_inj, BitVec.toNat_ofNat]
  rfl

theorem ofInt_eq_zero_iff (d : Int) : BitVec.ofInt 8 d = 0 ↔ d % 256 = 0 := by
  rw [← BitVec.toNat_inj, BitVec.toNat_ofInt]
  change (d % 256).toNat = 0 ↔ d % 256 = 0
  omega

/-- The sum and its flags in numbers (R171, R172). -/
theorem addResult_eq (a v : Byte) (c : Bool) : addResult a v c =
    (BitVec.ofNat 8 (a.toNat + v.toNat + carryIn c),
      { z := decide ((a.toNat + v.toNat + carryIn c) % 256 = 0), n := false,
        h := decide (a.toNat % 16 + v.toNat % 16 + carryIn c > 15), c := decide (a.toNat + v.toNat + carryIn c > 255) }) := by
  simp only [addResult, ofNat_eq_zero_iff]
  rfl

theorem sub_sub_eq_ofInt (a v : Byte) (c : Nat) :
    a - v - BitVec.ofNat 8 c = BitVec.ofInt 8 ((a.toNat : Int) - v.toNat - c) := by
  rw [Int.sub_eq_add_neg, Int.sub_eq_add_neg, BitVec.ofInt_add, BitVec.ofInt_add, BitVec.ofInt_neg, BitVec.ofInt_neg]
  simp [BitVec.sub_eq_add_neg]

/-- The difference and its flags in numbers (R173, R174). -/
theorem subResult_eq (a v : Byte) (c : Bool) : subResult a v c =
    (BitVec.ofInt 8 ((a.toNat : Int) - v.toNat - carryIn c),
      { z := decide (((a.toNat : Int) - v.toNat - carryIn c) % 256 = 0), n := true,
        h := decide (a.toNat % 16 < v.toNat % 16 + carryIn c), c := decide ((a.toNat : Int) - v.toNat - carryIn c < 0) }) := by
  have hborrow : a.toNat < v.toNat + carryIn c ↔ (a.toNat : Int) - v.toNat - carryIn c < 0 := by omega
  simp only [subResult, sub_sub_eq_ofInt, ofInt_eq_zero_iff, hborrow]
  rfl

/-- Settles O25, by the sum in numbers. -/
theorem additionResults : Obligations.AdditionResults := by
  rintro s op c (⟨rfl, rfl⟩ | ⟨rfl, rfl⟩)
  · refine aluForms_mono (aluForms_aluResult .add s) fun i v k h => ?_
    rwa [aluResult, addResult_eq] at h
  · refine aluForms_mono (aluForms_aluResult .adc s) fun i v k h => ?_
    rwa [aluResult, addResult_eq] at h

/-- Settles O26, by the difference in numbers. -/
theorem subtractionResults : Obligations.SubtractionResults := by
  rintro s op c (⟨rfl | rfl, rfl⟩ | ⟨rfl, rfl⟩)
  · refine aluForms_mono (aluForms_aluResult .sub s) fun i v k h => ?_
    rwa [aluResult, subResult_eq] at h
  · refine aluForms_mono (aluForms_aluResult .cp s) fun i v k h => ?_
    rwa [aluResult, subResult_eq] at h
  · refine aluForms_mono (aluForms_aluResult .sbc s) fun i v k h => ?_
    rwa [aluResult, subResult_eq] at h

/-! ### Operands replaced in place -/

/-- A meaning that reads an operand and writes it and the flags, by functions of the byte and the old flags (R180 to R183, R219
to R230). -/
theorem replaces_of {i : Operand → Instr} {s : State} (w : Flags → Byte → Byte) (fl : Flags → Byte → Flags)
    (h : ∀ o, exec (i o) s =
      .next (withOperand o (fun v t => putOperand o (w t.flags v) (setFlags (fl t.flags v) t)) s)) :
    Replaces i s (w s.flags) (fl s.flags) := by
  refine ⟨fun r => replaced_reg (h (.reg r)), replaced_atHL ?_⟩
  have hhl : hlPair (cycle s) = hlPair s := hlPair_congr (cycle_regs s)
  have hflags : (cycle s).flags = s.flags := flags_congr (cycle_regs s)
  rw [h, withOperand, withRead, putOperand, hflags]
  exact congrArg _ (congrArg (memWrite · _ _) hhl)

/-- The same for a meaning that leaves the flags. -/
theorem replaces_of_keepsFlags {i : Operand → Instr} {s : State} (w : Byte → Byte)
    (h : ∀ o, exec (i o) s = .next (withOperand o (fun v t => putOperand o (w v) t) s)) :
    Replaces i s w (fun _ => s.flags) := by
  have hsame (t : State) : setFlags t.flags t = t := by rw [setFlags, State.flags, putFlags_flagsOf]
  refine replaces_of (fun _ => w) (fun fl _ => fl) fun o => ?_
  simp only [h, hsame]

theorem add_one_eq_ofNat (v : Byte) : v + 1 = BitVec.ofNat 8 (v.toNat + 1) := by
  rw [BitVec.ofNat_add, BitVec.ofNat_toNat, BitVec.setWidth_eq]
  rfl

theorem sub_one_eq_ofInt (v : Byte) : v - 1 = BitVec.ofInt 8 (v.toNat - 1) := by
  rw [Int.sub_eq_add_neg, ofInt_toNat_add, BitVec.sub_eq_add_neg]
  rfl

theorem add_one_eq_zero_iff (v : Byte) : v + 1 = 0 ↔ v.toNat = 255 := by
  rw [add_one_eq_ofNat, ofNat_eq_zero_iff]
  omega

theorem sub_one_eq_zero_iff (v : Byte) : v - 1 = 0 ↔ v.toNat = 1 := by
  rw [sub_one_eq_ofInt, ofInt_eq_zero_iff]
  omega

/-- The next byte and its flags in numbers (R180). -/
theorem incResult_eq (v : Byte) (fl : Flags) : incResult v fl =
    (BitVec.ofNat 8 (v.toNat + 1),
      { z := decide (v.toNat = 255), n := false, h := decide (v.toNat % 16 = 15), c := fl.c }) := by
  simp only [incResult, add_one_eq_zero_iff]
  rw [add_one_eq_ofNat]
  rfl

/-- The previous byte and its flags in numbers (R182). -/
theorem decResult_eq (v : Byte) (fl : Flags) : decResult v fl =
    (BitVec.ofInt 8 (v.toNat - 1),
      { z := decide (v.toNat = 1), n := true, h := decide (v.toNat % 16 = 0), c := fl.c }) := by
  simp only [decResult, sub_one_eq_zero_iff]
  rw [sub_one_eq_ofInt]
  rfl

/-- Settles O28: both replace their operand by the next or the previous byte. -/
theorem incrementDecrementResults : Obligations.IncrementDecrementResults := by
  intro s
  have hinc := replaces_of (s := s) (fun fl v => (incResult v fl).1) (fun fl v => (incResult v fl).2) (exec_incInstr s)
  have hdec := replaces_of (s := s) (fun fl v => (decResult v fl).1) (fun fl v => (decResult v fl).2) (exec_decInstr s)
  simp only [incResult_eq] at hinc
  simp only [decResult_eq] at hdec
  exact ⟨hinc, hdec⟩

/-! ### Adjustments of the accumulator -/

/-- The complement in numbers (R186). -/
theorem not_eq_ofNat (v : Byte) : ~~~v = BitVec.ofNat 8 (255 - v.toNat) :=
  BitVec.eq_of_toNat_eq (by rw [BitVec.toNat_not, BitVec.toNat_ofNat]; omega)

/-- The correction of `DAA` by its two halves (R185). -/
theorem daaCorrection_eq (a : Byte) (fl : Flags) : daaCorrection a fl =
    (if fl.c || (!fl.n && decide (a.toNat > 0x99)) then 0x60 else 0) +
      (if fl.h || (!fl.n && decide (a.toNat % 16 > 9)) then 6 else 0) := by
  cases hn : fl.n <;> simp [daaCorrection, hn, lowNibble]

theorem sub_ofNat_eq_ofInt (a : Byte) (c : Nat) : a - BitVec.ofNat 8 c = BitVec.ofInt 8 (a.toNat - c) := by
  rw [Int.sub_eq_add_neg, ofInt_toNat_add, BitVec.ofInt_neg, BitVec.ofInt_natCast, BitVec.sub_eq_add_neg]

theorem add_ofNat_eq_ofInt (a : Byte) (c : Nat) : a + BitVec.ofNat 8 c = BitVec.ofInt 8 (a.toNat + c) := by
  rw [ofInt_toNat_add, BitVec.ofInt_natCast]

theorem correction_ge_iff : ∀ big small : Bool,
    (if big then 0x60 else 0) + (if small then 6 else 0) ≥ 0x60 ↔ big = true := by
  decide

theorem correction_cast : ∀ big small : Bool,
    (((if big then 0x60 else 0) + (if small then 6 else 0) : Nat) : Int) =
      (if big then 0x60 else 0) + (if small then 6 else 0) := by
  decide

/-- `DAA` in numbers (R185). -/
theorem daaResult_eq (a : Byte) (fl : Flags) :
    let big := fl.c || (!fl.n && decide (a.toNat > 0x99))
    let small := fl.h || (!fl.n && decide (a.toNat % 16 > 9))
    let corr : Int := (if big then 0x60 else 0) + (if small then 6 else 0)
    let r : Byte := BitVec.ofInt 8 (if fl.n then a.toNat - corr else a.toNat + corr)
    daaResult a fl = (r, { z := decide (r.toNat = 0), n := fl.n, h := false, c := big }) := by
  intro big small corr r
  have hcorr : ((daaCorrection a fl : Nat) : Int) = corr := by
    rw [daaCorrection_eq]
    exact correction_cast big small
  have hr : (if fl.n then a - BitVec.ofNat 8 (daaCorrection a fl) else a + BitVec.ofNat 8 (daaCorrection a fl)) = r := by
    simp only [r, ← hcorr, sub_ofNat_eq_ofInt, add_ofNat_eq_ofInt]
    split <;> rfl
  have hbig : (daaCorrection a fl ≥ 0x60) ↔ big = true := by
    rw [daaCorrection_eq]
    exact correction_ge_iff big small
  have hz : r = 0 ↔ r.toNat = 0 := (BitVec.toNat_inj (x := r) (y := 0)).symm
  simp only [daaResult, hr, hbig, hz, Bool.decide_eq_true]

/-- Settles O29. `SCF` and `CCF` write the accumulator back. -/
theorem accumulatorAdjustments : Obligations.AccumulatorAdjustments := by
  intro s a n big small corr r
  refine ⟨?daa, ?cpl, accResult_of (k := 0) (r := (s.regs.a, { s.flags with n := false, h := false, c := true })) rfl,
    accResult_of (k := 0) (r := (s.regs.a, { s.flags with n := false, h := false, c := !s.flags.c })) rfl⟩
  case daa =>
    have h := accResult_of (s := s) (i := .daa) (k := 0) (r := daaResult s.regs.a s.flags) rfl
    rwa [daaResult_eq] at h
  case cpl =>
    have h := accResult_of (s := s) (i := .cpl) (k := 0) (r := (~~~s.regs.a, { s.flags with n := true, h := true })) rfl
    rwa [not_eq_ofNat] at h

/-! ### Decimal addition -/

theorem packedDecimal_toNat {x : Nat} (hx : x < 100) : (packedDecimal x).toNat = x / 10 * 16 + x % 10 := by
  have htens : x / 10 % 10 = x / 10 := Nat.mod_eq_of_lt (by omega)
  rw [packedDecimal, BitVec.toNat_ofNat, htens]
  exact Nat.mod_eq_of_lt (by omega)

/-- `DAA` after an addition in numbers (R185). -/
theorem daaResult_of_not_n {a : Byte} {fl : Flags} (hn : fl.n = false) :
    (daaResult a fl).1.toNat = (a.toNat + daaCorrection a fl) % 256 ∧
      (daaResult a fl).2.c = decide (0x60 ≤ daaCorrection a fl) := by
  refine ⟨?_, rfl⟩
  simp only [daaResult, hn, Bool.false_eq_true, if_false, BitVec.toNat_add, BitVec.toNat_ofNat]
  omega

/-- `DAA` corrects the binary sum of two packed decimals to the decimal sum (R171, R185). -/
theorem daaResult_addResult {x y : Nat} (hx : x < 100) (hy : y < 100) :
    let sum := addResult (packedDecimal x) (packedDecimal y) false
    (daaResult sum.1 sum.2).1 = packedDecimal ((x + y) % 100) ∧ (daaResult sum.1 sum.2).2.c = decide (100 ≤ x + y) := by
  intro sum
  have hsum : sum = _ := addResult_eq (packedDecimal x) (packedDecimal y) false
  obtain ⟨hr, hc⟩ := daaResult_of_not_n (a := sum.1) (fl := sum.2) rfl
  have hx' := packedDecimal_toNat hx
  have hy' := packedDecimal_toNat hy
  have hxy := packedDecimal_toNat (x := (x + y) % 100) (by omega)
  have hcorr : daaCorrection sum.1 sum.2 =
      (if 100 ≤ x + y then 0x60 else 0) + (if 10 ≤ x % 10 + y % 10 then 6 else 0) := by
    rw [daaCorrection_eq, hsum, hx', hy']
    simp only [carryIn, BitVec.toNat_ofNat, Bool.not_false, Bool.true_and, Bool.false_eq_true, if_false, ← Bool.decide_or,
      decide_eq_true_eq]
    congr 1
    · congr 1
      apply propext
      omega
    · congr 1
      apply propext
      omega
  constructor
  · apply BitVec.eq_of_toNat_eq
    rw [hr, hxy, hcorr, hsum, hx', hy']
    simp only [carryIn, BitVec.toNat_ofNat, Bool.false_eq_true, if_false]
    split <;> split <;> omega
  · rw [hc, hcorr]
    split <;> split <;> simp [*]

/-- Settles O30: `ADD A,B` leaves the sum and its flags, and `DAA` corrects them. -/
theorem decimalAdditionAdjusts : Obligations.DecimalAdditionAdjusts := by
  intro s t u x y hx hy ha hb hadd hdaa
  have ht : t = setAF (addResult s.regs.a s.regs.b false) s := by
    cases hadd
    rfl
  have hu : u = setAF (daaResult t.regs.a t.flags) t := by
    cases hdaa
    rfl
  have hflags : t.flags = (addResult s.regs.a s.regs.b false).2 := by rw [ht]; exact setFlags_flags _ _
  have hacc : t.regs.a = (addResult s.regs.a s.regs.b false).1 := by rw [ht]; rfl
  rw [hu, hflags, hacc, ha, hb]
  obtain ⟨hsum, hcarry⟩ := daaResult_addResult hx hy
  refine ⟨hsum, ?_⟩
  rw [setAF, setFlags_flags, hcarry]

end Sys2Proof.Proofs
end

section
/-! PROOFS. The statements of 43_alu16.md and 44_rotate_bit.md: pair arithmetic, and the rotates, shifts and bit operations bit
by bit (R200 to R202, R210 to R230). -/

namespace Sys2Proof.Proofs

open Sys2Proof.Machine

/-! ### Pair arithmetic -/

/-- A pair changed a machine cycle before the end (R201, R202). -/
theorem pairStepped (s : State) (p : Pair) (v : Word) {t : State} (ht : t = cycle (setPair p v s)) :
    getPair p t = v ∧ OnlyPair p s t ∧ AgentsOf (cycle s) t ∧ KeepsMemory [] s t := by
  rw [cycle_setPair] at ht
  have hagents : AgentsOf (cycle s) t := ht ▸ agentsOf_setPair p v (agentsOf_refl _)
  refine ⟨by rw [ht, getPair_setPair_same], ?_, hagents, keepsMemory_of_cycles (n := 1) hagents⟩
  rw [ht]
  exact (onlyPair_setPair p v (cycle s)).of_cycle

/-- Settles O31: `ADD HL` writes the sum and its flags, the others one pair. -/
theorem pairArithmetic : Obligations.PairArithmetic := by
  intro s p hl v
  constructor
  · have hsum : BitVec.ofNat 16 (hl + v) = hlPair s + getPair p s := by
      simp only [hl, v, BitVec.ofNat_add, BitVec.ofNat_toNat, BitVec.setWidth_eq]
    have hexec : exec (addHLInstr p) s = .next (setFlags (addHLResult (hlPair s) (getPair p s) s.flags).2
        (setPair .hl (hlPair s + getPair p s) (cycle s))) := by
      rw [exec_addHLInstr, ← cycle_setPair, ← cycle_setFlags]
      rfl
    rw [hsum]
    have hagents : AgentsOf (cycle s) (setFlags (addHLResult (hlPair s) (getPair p s) s.flags).2
        (setPair .hl (hlPair s + getPair p s) (cycle s))) :=
      agentsOf_setFlags _ (agentsOf_setPair _ _ (agentsOf_refl _))
    have hframe : OnlyRegs [.h, .l] s (setPair .hl (hlPair s + getPair p s) (cycle s)) :=
      onlyRegs_of_cycles (k := 1) (onlyRegs_setPair_hl _ (cycle s))
    exact ⟨_, hexec, hlPair_setPair_hl _ (cycle s), onlyRegsAndFlags_setFlags _ hframe, hagents,
      keepsMemory_of_cycles (n := 1) hagents⟩
  · rintro i d (⟨rfl, rfl⟩ | ⟨rfl, rfl⟩)
    · obtain ⟨hpair, ⟨hreg, hf, hsp, hpc, hc⟩, hagents, hmem⟩ := pairStepped s p (getPair p s + 1) rfl
      refine ⟨_, exec_incPairInstr s p, ?_, hreg, hf, hsp, hpc, hc, hagents, hmem⟩
      rw [ofInt_toNat_add]
      exact hpair
    · obtain ⟨hpair, ⟨hreg, hf, hsp, hpc, hc⟩, hagents, hmem⟩ := pairStepped s p (getPair p s - 1) rfl
      refine ⟨_, exec_decPairInstr s p, ?_, hreg, hf, hsp, hpc, hc, hagents, hmem⟩
      rw [ofInt_toNat_add]
      exact hpair.trans (BitVec.sub_eq_add_neg _ _)

/-! ### Rotates and shifts -/

theorem getLsbD_byteOfBits (b7 b6 b5 b4 b3 b2 b1 b0 : Bool) (i : Nat) :
    (byteOfBits b7 b6 b5 b4 b3 b2 b1 b0).getLsbD i = ([b0, b1, b2, b3, b4, b5, b6, b7].getD i false) := by
  match i with
  | 0 | 1 | 2 | 3 | 4 | 5 | 6 | 7 =>
    simp only [byteOfBits, BitVec.getLsbD_append, BitVec.getLsbD_ofBool]
    simp
  | i + 8 => exact BitVec.getLsbD_of_ge _ _ (by omega)

theorem getLsbD_rotated (op : RotOp) (v : Byte) (c : Bool) {i : Nat} (hi : i < 8) :
    (rotated op v c).getLsbD i = rotatedBit op v c i := by
  rw [rotated, getLsbD_byteOfBits]
  match i, hi with
  | 0, _ | 1, _ | 2, _ | 3, _ | 4, _ | 5, _ | 6, _ | 7, _ => rfl

theorem getLsbD_lowMask (b : Bool) (i : Nat) : (if b then 0x01 else 0 : Byte).getLsbD i = (b && decide (i = 0)) := by
  cases b
  · simp
  · match i with
    | 0 | 1 | 2 | 3 | 4 | 5 | 6 | 7 => rfl
    | i + 8 => exact BitVec.getLsbD_of_ge _ _ (by omega)

theorem getLsbD_highMask (b : Bool) (i : Nat) : (if b then 0x80 else 0 : Byte).getLsbD i = (b && decide (i = 7)) := by
  cases b
  · simp
  · match i with
    | 0 | 1 | 2 | 3 | 4 | 5 | 6 | 7 => rfl
    | i + 8 => exact BitVec.getLsbD_of_ge _ _ (by omega)

/-- Each rotate moves every bit where R220 to R227 say. -/
theorem getLsbD_rotValue (op : RotOp) (v : Byte) (c : Bool) {i : Nat} (hi : i < 8) :
    (rotValue op v c).1.getLsbD i = rotatedBit op v c i := by
  cases op
  case rlc | rl | rrc | rr | sla | srl =>
    simp only [rotValue, rotatedBit, BitVec.getLsbD_or, BitVec.getLsbD_shiftLeft, BitVec.getLsbD_ushiftRight,
      getLsbD_lowMask, getLsbD_highMask]
    match i, hi with
    | 0, _ | 1, _ | 2, _ | 3, _ | 4, _ | 5, _ | 6, _ | 7, _ => simp
  case sra | swap =>
    simp only [rotValue, rotatedBit, BitVec.getLsbD_or, BitVec.getLsbD_shiftLeft, BitVec.getLsbD_ushiftRight,
      BitVec.getLsbD_and]
    match i, hi with
    | 0, _ | 1, _ | 2, _ | 3, _ | 4, _ | 5, _ | 6, _ | 7, _ => simp

theorem rotValue_eq (op : RotOp) (v : Byte) (c : Bool) : rotValue op v c = (rotated op v c, rotatedCarry op v) := by
  have hbits : (rotValue op v c).1 = rotated op v c :=
    BitVec.eq_of_getLsbD_eq fun i hi => by rw [getLsbD_rotValue op v c hi, getLsbD_rotated op v c hi]
  have hcarry : (rotValue op v c).2 = rotatedCarry op v := by cases op <;> rfl
  exact Prod.ext hbits hcarry
/-- Settles O32, by the bits of the rotate. -/
theorem accumulatorRotates : Obligations.AccumulatorRotates := by
  intro s i op hmem
  have hexec : exec i s = .next (setAF (rotAResult op s.regs.a s.flags.c) s) := by
    repeat (rcases hmem with _ | ⟨_, hmem⟩; · rfl)
    cases hmem
  have h := accResult_of (k := 0) hexec
  rwa [rotAResult, rotValue_eq] at h

/-- Settles O33, by the bits of the rotate. -/
theorem prefixedRotates : Obligations.PrefixedRotates := by
  intro s op
  have h := replaces_of (s := s) (fun fl v => (rotResult op v fl.c).1) (fun fl v => (rotResult op v fl.c).2)
    (exec_rotInstr s op)
  have hz (r : Byte) : r = 0 ↔ r.toNat = 0 := (BitVec.toNat_inj (x := r) (y := 0)).symm
  simp only [rotResult, rotValue_eq, hz] at h
  exact h

/-! ### Bit operations -/

theorem getLsbD_bitMask : ∀ b j : Fin 8, (bitMask b).getLsbD j = decide (j = b) := by decide

theorem getLsbD_resetBit (b j : Fin 8) (v : Byte) :
    (v &&& ~~~bitMask b).getLsbD j = if j = b then false else v.getLsbD j := by
  have hj : j.val < 8 := j.isLt
  rw [BitVec.getLsbD_and, BitVec.getLsbD_not, getLsbD_bitMask]
  by_cases h : j = b <;> simp [hj, h]

theorem getLsbD_setBit (b j : Fin 8) (v : Byte) :
    (v ||| bitMask b).getLsbD j = if j = b then true else v.getLsbD j := by
  rw [BitVec.getLsbD_or, getLsbD_bitMask]
  by_cases h : j = b <;> simp [h]

/-- A meaning that writes nothing but the flags, `k` machine cycles later. -/
theorem flagsOnly_of {i : Instr} {s : State} {k : Nat} {fl : Flags} (h : exec i s = .next (setFlags fl (cycles k s))) :
    ∃ t, exec i s = .next t ∧ OnlyRegsAndFlags [] fl s t ∧ AgentsOf (cycles k s) t ∧ KeepsMemory [] s t := by
  have hagents : AgentsOf (cycles k s) (setFlags fl (cycles k s)) := agentsOf_setFlags fl (agentsOf_refl _)
  exact ⟨_, h, onlyRegsAndFlags_setFlags fl (onlyRegs_of_cycles (onlyRegs_refl _)), hagents, keepsMemory_of_cycles hagents⟩

/-- Settles O34: `BIT` writes flags, and `RES` and `SET` mask one bit. -/
theorem bitOperations : Obligations.BitOperations := by
  intro s b
  refine ⟨fun r => flagsOnly_of (k := 0) ?_, flagsOnly_of (k := 1) ?_, (· &&& ~~~bitMask b), (· ||| bitMask b),
    fun v j => ⟨getLsbD_resetBit b j v, getLsbD_setBit b j v⟩, replaces_of_keepsFlags _ (exec_resInstr s b),
    replaces_of_keepsFlags _ (exec_setInstr s b)⟩
  · exact exec_bitInstr s b (.reg r)
  · have hflags : (cycle s).flags = s.flags := flags_congr (cycle_regs s)
    rw [exec_bitInstr, bitTest, withOperand, withRead, hflags]
    rfl

end Sys2Proof.Proofs
end

section
/-! PROOFS. The statements of 45_control.md and 46_system.md: jumps, calls, returns, the byte `0xCB`, `HALT` and the
terminal instructions (R240 to R250, R260 to R267). -/

namespace Sys2Proof.Proofs

open Sys2Proof.Machine

/-! ### Jumps (R240 to R244) -/

theorem jumpsTo_here {i : Instr} {s : State} (h : exec i s = .next s) : JumpsTo i s s.regs.pc 0 := jumpsTo_of (k := 0) h

theorem jumpsTo_jump {i : Instr} {s : State} {nn : Word} (h : exec i s = .next (jump nn s)) : JumpsTo i s nn 1 :=
  jumpsTo_of (k := 1) (h.trans (congrArg _ (cycle_setPc nn s)))

theorem jumpsTo_jumpRelative {i : Instr} {s : State} {e : Byte} (h : exec i s = .next (jumpRelative e s)) :
    JumpsTo i s (BitVec.ofInt 16 (s.regs.pc.toNat + e.toInt)) 1 := by
  rw [← add_sext16_eq]
  exact jumpsTo_of (k := 1) (h.trans (congrArg _ (cycle_setPc _ s)))

/-- Settles O35: a conditional jump is the jump or nothing. -/
theorem jumpTargets : Obligations.JumpTargets := by
  intro s nn e relative
  refine ⟨jumpsTo_jump rfl, jumpsTo_of (k := 0) rfl, jumpsTo_jumpRelative rfl, fun cc taken htaken => ?_⟩
  replace htaken : taken = condHolds cc s := htaken.trans (by cases cc <;> rfl)
  have hjp := exec_jpInstr s cc nn
  have hjr := exec_jrInstr s cc e
  rw [jumpIf, ← htaken] at hjp
  rw [jumpRelativeIf, ← htaken] at hjr
  cases taken
  · exact ⟨jumpsTo_here hjp, jumpsTo_here hjr⟩
  · exact ⟨jumpsTo_jump hjp, jumpsTo_jumpRelative hjr⟩

/-! ### Calls (R245, R246, R250) -/

theorem callsTo_of {i : Instr} {s : State} {target : Word} (h : exec i s = .next (callTo target s)) : CallsTo i s target := by
  have hagents : AgentsOf (pushedAgents s.regs.pc (cycle s)) (callTo target s) := by
    rw [callTo, push16_eq_pushedAgents, cycle_regs]
    exact agentsOf_setPc _ (agentsOf_setSp _ (agentsOf_refl _))
  refine ⟨_, h, ?_, ?_, hagents, keepsMemory_of_pushedAgents (k := 1) hagents⟩
  · rw [callTo, push16_eq_pushedAgents, setPc, setSp, pushedAgents_regs, cycle_regs]
  · rw [KeepsCtl, callTo, push16_eq_pushedAgents, setPc_ctl, setSp_ctl, pushedAgents_ctl, cycle_ctl]

/-- Settles O36: a call whose condition fails does nothing. -/
theorem callsPushReturnAddress : Obligations.CallsPushReturnAddress := by
  intro s nn
  refine ⟨callsTo_of rfl, fun y => callsTo_of ?_, fun cc => ⟨fun hcc => callsTo_of ?_, fun hcc => jumpsTo_here ?_⟩⟩
  · rw [exec_rstInstr, restart, Nat.mul_comm]
  · rw [exec_callInstr, callIf, if_pos hcc]
  · rw [exec_callInstr, callIf, if_neg (by simp [hcc])]

/-! ### Returns (R247 to R249) -/

theorem returnFromCall_eq (s : State) :
    returnFromCall s = setPc (poppedWord s) (setSp (s.regs.sp + 2) (cycles 3 s)) := by
  rw [returnFromCall, withPop16_eq_poppedWord, cycle_setPc, cycle_setSp]
  rfl

/-- What a return leaves. -/
theorem returnFromCall_frame (s : State) : (returnFromCall s).regs = { s.regs with sp := s.regs.sp + 2, pc := poppedWord s } ∧
    (returnFromCall s).ctl = s.ctl ∧ AgentsOf (cycles 3 s) (returnFromCall s) := by
  rw [returnFromCall_eq]
  refine ⟨?_, ?_, agentsOf_setPc _ (agentsOf_setSp _ (agentsOf_refl _))⟩
  · rw [setPc, setSp, cycles_regs]
  · rw [setPc_ctl, setSp_ctl, cycles_ctl]

/-- Settles O37: `RETI` is `RET` and the switch of `IME`, and `RET cc` is one machine cycle before either. -/
theorem returnsPopAddress : Obligations.ReturnsPopAddress := by
  intro s
  obtain ⟨hregs, hctl, hagents⟩ := returnFromCall_frame s
  refine ⟨⟨_, rfl, hregs, hctl, hagents, keepsMemory_of_cycles hagents⟩, ?reti, fun cc => ?_⟩
  case reti =>
    have hagents' := agentsOf_setIme true hagents
    have hexec : exec .reti s = .next (setIme true (returnFromCall s)) := by
      rw [← returnFromInterrupt_eq]
      rfl
    exact ⟨_, hexec, hregs, congrArg ({ · with ime := true }) hctl, hagents', keepsMemory_of_cycles hagents'⟩
  have hexec := exec_retInstr s cc
  have hcond : condHolds cc (cycle s) = condHolds cc s := condHolds_congr (cycle_regs s) cc
  simp only [returnIf, hcond] at hexec
  refine ⟨fun hcc => ?fails, fun hcc => ?holds⟩
  case fails =>
    rw [if_neg (by simp [hcc])] at hexec
    refine jumpsTo_of (k := 1) (hexec.trans ?_)
    rw [← cycles_setPc]
    rfl
  case holds =>
    rw [if_pos hcc] at hexec
    obtain ⟨hregs, hctl, hagents⟩ := returnFromCall_frame (cycle s)
    exact ⟨_, hexec, by rw [hregs, cycle_regs], by rw [KeepsCtl, hctl, cycle_ctl], hagents,
      keepsMemory_of_cycles (n := 4) hagents⟩

/-! ### The system instructions (R260 to R267) -/

theorem keepsMemory_of_agents {s t : State} (h : AgentsOf s t) : KeepsMemory [] s t := keepsMemory_of_cycles (n := 0) h

theorem ne_zero_of_getLsbD {v : BitVec 5} {n : Nat} (h : v.getLsbD n = true) : v ≠ 0 := by
  rintro rfl
  simp at h

theorem eq_zero_of_getLsbD {v : BitVec 5} (h : ∀ n, n < 5 → v.getLsbD n = false) : v = 0 :=
  BitVec.eq_of_getLsbD_eq fun n hn => by rw [h n hn]; exact BitVec.getLsbD_zero.symm

/-- Settles O39: `EI` is the switch alone, and `HALT` looks at the enabled sources. -/
theorem nopEnableAndHalt : Obligations.NopEnableAndHalt := by
  intro s
  refine ⟨rfl, ⟨setIme true s, rfl, rfl, keepsMemory_of_agents (agentsOf_setIme true (agentsOf_refl s)),
    fun hrun hp => step_enters hrun rfl hp⟩, ?_⟩
  by_cases hie : s.ie = 0
  · have hexec : exec .halt s = .next (setPc (s.regs.pc + 1) s) := congrArg _ (if_pos hie)
    have hagents := agentsOf_setPc (s.regs.pc + 1) (agentsOf_refl s)
    exact ⟨_, hexec, hagents, keepsMemory_of_agents hagents, fun ⟨n, _, hset⟩ => absurd hie (ne_zero_of_getLsbD hset),
      fun _ => ⟨rfl, rfl⟩⟩
  · have hexec : exec .halt s = .next (setHalt true s) := congrArg _ (if_neg hie)
    have hagents := agentsOf_setHalt true (agentsOf_refl s)
    exact ⟨_, hexec, hagents, keepsMemory_of_agents hagents, fun _ => ⟨rfl, rfl⟩,
      fun hclear => absurd (eq_zero_of_getLsbD hclear) hie⟩

/-- Settles O40: both change the status alone, and a terminal status has no step. -/
theorem terminalInstructions : Obligations.TerminalInstructions := by
  intro s
  refine ⟨⟨raiseStopExecuted s, rfl, rfl, rfl, rfl, keepsMemory_of_agents rfl, step_terminal (by simp)⟩,
    fun i byte hmem => ⟨undefinedOpcode byte s, exec_undefined s hmem, rfl, rfl, rfl, keepsMemory_of_agents rfl, ?_⟩⟩
  exact step_terminal (s := raiseUndefinedOpcode byte s) (by simp)

/-! ### The byte `0xCB` (R266) -/

/-- What a `CB` instruction leaves: no other agent but for one store at `HL`. -/
def CbEffect (s t : State) : Prop :=
  KeepsPc s t ∧ KeepsCtl s t ∧ ((∃ k, AgentsOf (cycles k s) t) ∨ ∃ v, AgentsOf (memWrite (hlPair s) v (cycle s)) t)

theorem cbEffect_of_replaces {i : Operand → Instr} {s : State} {w : Byte → Byte} {fl : Byte → Flags}
    (h : Replaces i s w fl) (o : Operand) : ∃ t, exec (i o) s = .next t ∧ CbEffect s t := by
  obtain ⟨hreg, hmem⟩ := h
  cases o with
  | reg r =>
    obtain ⟨t, hexec, -, ⟨-, -, -, hpc, hctl⟩, hagents, -⟩ := hreg r
    exact ⟨t, hexec, hpc, hctl, .inl ⟨0, hagents⟩⟩
  | atHL =>
    obtain ⟨t, hexec, ⟨-, -, -, hpc, hctl⟩, hagents, -⟩ := hmem
    exact ⟨t, hexec, hpc, hctl, .inr ⟨_, hagents⟩⟩

theorem cbEffect_bitInstr (b : Fin 8) (o : Operand) (s : State) : ∃ t, exec (bitInstr b o) s = .next t ∧ CbEffect s t := by
  obtain ⟨hreg, hmem, -⟩ := bitOperations s b
  cases o with
  | reg r =>
    obtain ⟨t, hexec, ⟨-, -, -, hpc, hctl⟩, hagents, -⟩ := hreg r
    exact ⟨t, hexec, hpc, hctl, .inl ⟨0, hagents⟩⟩
  | atHL =>
    obtain ⟨t, hexec, ⟨-, -, -, hpc, hctl⟩, hagents, -⟩ := hmem
    exact ⟨t, hexec, hpc, hctl, .inl ⟨1, hagents⟩⟩

theorem exec_decodeCB_effect (op2 : Byte) (s : State) : ∃ t, exec (decodeCB op2) s = .next t ∧ CbEffect s t := by
  unfold decodeCB
  split
  · exact cbEffect_of_replaces (prefixedRotates s _) _
  · exact cbEffect_bitInstr _ _ s
  · obtain ⟨-, -, _, _, -, hres, -⟩ := bitOperations s (idx8 (yField op2))
    exact cbEffect_of_replaces hres _
  · obtain ⟨-, -, _, _, -, -, hset⟩ := bitOperations s (idx8 (yField op2))
    exact cbEffect_of_replaces hset _

/-- What is kept beside no store is kept beside one. -/
theorem keepsMemory_mono {stored : List Word} {s t : State} (h : KeepsMemory [] s t) : KeepsMemory stored s t :=
  fun hm b hb _ => h hm b hb (by simp)

theorem afterFetch_eq (s : State) : afterFetch s = { cycle s with regs := { s.regs with pc := s.regs.pc + 1 } } := by
  rw [afterFetch, setPc, cycle_regs]

/-- Settles O41: `prefixCB` is one fetch and the instruction that the byte selects. -/
theorem prefixRunsSecondByte : Obligations.PrefixRunsSecondByte := by
  intro s
  obtain ⟨t, hexec, hpc, hctl, hagents⟩ := exec_decodeCB_effect (fetchedByte s) (afterFetch s)
  refine ⟨t, (exec_prefixCB s).trans hexec, by rw [← afterFetch_eq]; exact hexec, ?ctl, ?pc, ?memory⟩
  case ctl => rw [hctl, afterFetch_eq, cycle_ctl]
  case pc => rw [hpc, afterFetch_eq]
  case memory =>
    have hfetch : afterFetch s = setPc (s.regs.pc + 1) (cycle s) := rfl
    rcases hagents with ⟨k, hagents⟩ | ⟨v, hagents⟩
    · rw [hfetch, cycles_setPc] at hagents
      exact keepsMemory_mono (keepsMemory_of_cycles (n := k + 1) hagents)
    · have hhl : hlPair (setPc (s.regs.pc + 1) (cycle s)) = hlPair s := hlPair_congr (s := cycle s) (cycle_regs s)
      rw [hfetch, cycle_setPc, memWrite_setPc, hhl] at hagents
      exact keepsMemory_of_memWrite (n := 2) hagents

end Sys2Proof.Proofs
end

section
/-! PROOFS. The statements of 20_memory.md on the MBC1 windows, the boot ROM and the RAMs (R61 to R86), and of 10_state.md and
61_timer_dma_joypad.md on the registers behind the bus and the joypad (R53, R341, R343). -/

namespace Sys2Proof.Proofs

open Sys2Proof.Machine

/-! ### Reading back a write -/

/-- No write changes which device stands at the address written. -/
theorem busRead_busWrite_same (s : State) (a : Word) (v : Byte) : busRead (busWrite s a v) a =
    deviceRead (deviceWrite s (deviceAt s.bootMapped a) v) (deviceAt s.bootMapped a) := by
  have hdev : deviceAt (busWrite s a v).bootMapped a = deviceAt s.bootMapped a := by
    refine deviceAt_busWrite v ?_
    rintro ⟨rfl, h⟩
    exact absurd h (by decide)
  rw [busRead, hdev, busWrite]

theorem memoryRead_write_same {r : Region} {m : Memory} (h : Memory.wf r m = true) (k : Nat) (v : Byte) :
    Memory.read r (Memory.write r m k v) k = v := by
  rw [Memory.read_write h, if_pos rfl]

/-! ### The MBC1 windows (R82, R85, R86) -/

theorem cartRomOffset_mbc1_fixed {s : State} (h : s.params.cartKind = .mbc1) {k : Nat} (hk : k < 0x4000) :
    cartRomOffset s k = k := by
  simp [cartRomOffset, h, hk]

theorem cartRomWrite_mbc1_ignored {s : State} (h : s.params.cartKind = .mbc1) {k : Nat} (hk : 0x4000 ≤ k) (v : Byte) :
    cartRomWrite s k v = s := by
  have hlow : ¬k < 0x2000 := by omega
  simp [cartRomWrite, h, hlow, Nat.not_lt.mpr hk]

theorem cartRamEnabled_mbc1 {s : State} (h : s.params.cartKind = .mbc1) : cartRamEnabled s = s.mbc.ramEnable := by
  simp [cartRamEnabled, h]

/-- Settles O44, by the device behind each window. -/
theorem bankControllerWindows : Obligations.BankControllerWindows := by
  intro s image a v hkind hmems himage
  refine ⟨fun h hboot => ?fixed, fun h h' => ⟨?switchable, ?ignored⟩, fun h h' => ?ram⟩
  case fixed => rw [busRead_cartRom (by omega) hboot, cartRomRead_ofBytes himage, cartRomOffset_mbc1_fixed hkind h]
  case switchable =>
    rw [busRead_cartRom h' (fun _ => by omega), cartRomRead_ofBytes himage, cartRomOffset_mbc1_switchable hkind h]
  case ignored => rw [busWrite_cartRom h' (fun _ => by omega), cartRomWrite_mbc1_ignored hkind h]
  case ram =>
    have hdev := deviceAt_cartRam s.bootMapped a h h'
    refine ⟨fun hen => ?_, fun hen => ?_⟩
    · have henabled : cartRamEnabled s = true := (cartRamEnabled_mbc1 hkind).trans hen
      rw [busRead_busWrite_same, hdev, deviceWrite, if_pos henabled]
      obtain ⟨-, -, -, -, hcartRam⟩ := hmems
      exact (if_pos henabled).trans (memoryRead_write_same hcartRam _ v)
    · have hdisabled : ¬cartRamEnabled s = true := by simp [cartRamEnabled_mbc1 hkind, hen]
      rw [busRead_eq_deviceRead hdev, busWrite_eq_deviceWrite hdev, deviceRead, deviceWrite, if_neg hdisabled,
        if_neg hdisabled]
      exact ⟨rfl, rfl⟩

/-! ### The boot ROM (R64, R69) -/

/-- Settles O47, by the device behind the boot ROM and behind `0xFF50`. -/
theorem bootRomOverlay : Obligations.BootRomOverlay := by
  intro s image a v
  have hunmap := deviceAt_bootUnmap s.bootMapped
  refine ⟨fun hboot himage ha => ?_, fun hv => ?_, ?_, busRead_eq_deviceRead hunmap⟩
  · have hdev : deviceAt s.bootMapped a = .bootRom a.toNat := hboot ▸ deviceAt_bootRom a ha
    refine ⟨?_, busWrite_eq_deviceWrite hdev v⟩
    rw [busRead_eq_deviceRead hdev, deviceRead, himage]
    exact Memory.read_ofBytes .bootRom image a.toNat
  · rw [busWrite_eq_deviceWrite hunmap, deviceWrite, if_neg hv]
  · rw [busWrite_eq_deviceWrite hunmap, deviceWrite, if_pos rfl]

/-! ### The RAMs (R31, R36, R38) -/

/-- Where plain RAM stands. -/
theorem plainRam_iff (a : Word) : plainRam a = true ↔ (0x8000 ≤ a.toNat ∧ a.toNat < 0xA000) ∨
    (0xC000 ≤ a.toNat ∧ a.toNat < 0xFE00) ∨ (0xFF80 ≤ a.toNat ∧ a.toNat < 0xFFFF) := by
  simp [plainRam, inWram, or_assoc]

theorem changesWithTime_plainRam {a : Word} (h : plainRam a = true) : changesWithTime a = false := by
  rw [plainRam_iff] at h
  have hne {b : Word} (n : Nat) (hb : b.toNat = n) (ha : a.toNat ≠ n) : (a == b) = false :=
    beq_eq_false_iff_ne.mpr fun e => ha (e ▸ hb)
  have hoam : (decide (0xFE00 ≤ a.toNat) && decide (a.toNat < 0xFEA0)) = false := by simp; omega
  rw [changesWithTime, hoam, hne 0xFF04 rfl (by omega), hne 0xFF05 rfl (by omega), hne 0xFF0F rfl (by omega),
    hne 0xFF41 rfl (by omega), hne 0xFF44 rfl (by omega)]
  rfl

/-- A RAM answers what was written to it. -/
theorem busRead_busWrite_ram {s : State} {a : Word} (hm : s.mems.Ok)
    (h : plainRam a = true ∨ (0xFE00 ≤ a.toNat ∧ a.toNat < 0xFEA0)) (v : Byte) : busRead (busWrite s a v) a = v := by
  obtain ⟨hvram, hoam, hwram, hhram, -⟩ := hm
  rw [plainRam_iff] at h
  rw [busRead_busWrite_same]
  rcases h with (⟨h, h'⟩ | ⟨h, h'⟩ | ⟨h, h'⟩) | ⟨h, h'⟩
  · rw [deviceAt_vram _ a h h']; exact memoryRead_write_same hvram _ v
  · rw [deviceAt_wram _ a h h']; exact memoryRead_write_same hwram _ v
  · rw [deviceAt_hram _ a h h']; exact memoryRead_write_same hhram _ v
  · rw [deviceAt_oam _ a h h']; exact memoryRead_write_same hoam _ v

/-- Settles O48: a RAM answers what was written, and time changes no byte of plain RAM. -/
theorem ramReadsBackWrites : Obligations.RamReadsBackWrites := by
  intro s a v hm
  refine ⟨fun h => busRead_busWrite_ram hm h v, fun h => ?_, keepsMemory_of_memWrite (n := 0) (agentsOf_refl _),
    fun h h' => busRead_eq_deviceRead (deviceAt_vram _ a h h'), fun h h' => busRead_eq_deviceRead (deviceAt_oam _ a h h')⟩
  rw [memWrite, busRead_cycle (changesWithTime_plainRam h), busRead_busWrite_ram hm (.inl h)]

/-! ### The registers (R53) -/

theorem setWidth_setWidth_toNat {n : Nat} (hn : n ≤ 8) (v : Byte) :
    ((v.setWidth n).setWidth 8).toNat = v.toNat % 2 ^ n := by
  rw [BitVec.toNat_setWidth, BitVec.toNat_setWidth]
  have hlt : v.toNat % 2 ^ n < 2 ^ n := Nat.mod_lt _ (Nat.two_pow_pos n)
  have hpow : 2 ^ n ≤ 2 ^ 8 := Nat.pow_le_pow_right (by decide) hn
  exact Nat.mod_eq_of_lt (by omega)

/-- `STAT` stores bits 6 to 3 and shows the mode (R40). -/
theorem statRead_eq (p : Ppu) (v : Byte) :
    statRead { p with statEnables := v.extractLsb' 3 4 } = v &&& 0x78 ||| statRead p &&& 0x03 := by
  apply BitVec.eq_of_getLsbD_eq
  intro i hi
  simp only [statRead, BitVec.getLsbD_or, BitVec.getLsbD_and, BitVec.getLsbD_append, BitVec.getLsbD_extractLsb']
  match i, hi with
  | 0, _ | 1, _ | 2, _ | 3, _ | 4, _ | 5, _ | 6, _ | 7, _ => simp

/-- Settles O49, by the row of each register. -/
theorem deviceRegistersStore : Obligations.DeviceRegistersStore := by
  intro s v
  refine ⟨fun a ha => ?_, fun a ha => ?_, setWidth_setWidth_toNat (n := 3) (by decide) v, rfl, statRead_eq s.ppu v, rfl,
    fun a ha => ?_⟩
  · repeat (rcases ha with _ | ⟨_, ha⟩; · rfl)
    cases ha
  · repeat (rcases ha with _ | ⟨_, ha⟩; · exact setWidth_setWidth_toNat (n := 5) (by decide) v)
    cases ha
  · repeat (rcases ha with _ | ⟨_, ha⟩; · exact ⟨rfl, rfl⟩)
    cases ha

/-! ### The joypad (R341, R343) -/

theorem anyPressed_eq_false_iff (g : Pad) : g.anyPressed = false ↔ g = Pad.released := by
  obtain ⟨up, down, left, right, a, b, start, select⟩ := g
  simp [Pad.anyPressed, Pad.released, and_assoc]

/-- A key bit is clear exactly when a selected key is pressed. -/
theorem keyBit_eq_false_iff (b k d k' : Bool) :
    (!(b && k) && !(d && k')) = false ↔ (b = true ∧ k = true) ∨ (d = true ∧ k' = true) := by
  revert b k d k'
  decide

/-- Settles O51, bit by bit. -/
theorem joypadReadAndUpdate : Obligations.JoypadReadAndUpdate := by
  intro s g
  constructor
  · intro r b d k
    have hr : r = joypadRead s.joypad := busRead_eq_deviceRead (deviceAt_joyp s.bootMapped)
    rw [hr]
    simp only [joypadRead, getLsbD_byteOfBits]
    exact ⟨rfl, rfl, rfl, rfl, keyBit_eq_false_iff .., keyBit_eq_false_iff .., keyBit_eq_false_iff ..,
      keyBit_eq_false_iff ..⟩
  · refine ⟨_, rfl, fun n hn => ?_, ?_⟩
    · split
      · match n, hn with
        | 0, _ | 1, _ | 2, _ | 3, _ => simp
      · rfl
    · rw [← anyPressed_eq_false_iff, Ne, ← anyPressed_eq_false_iff]
      cases s.joypad.pad.anyPressed <;> cases g.anyPressed <;> simp

end Sys2Proof.Proofs
end

section
/-! PROOFS. The statements of 61_timer_dma_joypad.md and 62_ppu.md on one tick and on the frame: the timer, the requests, the
clock of the PPU and the pixel drawn (R315 to R317, R351, R360 to R366, R384); and the state after construction (R51, R52,
R400). -/

namespace Sys2Proof.Proofs

open Sys2Proof.Machine

/-! ### Requests (R285, R317, R361, R364) -/

/-- A request mask has the bit of its source alone. -/
theorem getLsbD_mask (b : Bool) (n i : Nat) (hn : n < 5) :
    (if b then BitVec.twoPow 5 n else 0).getLsbD i = (b && decide (i = n)) := by
  cases b
  · simp
  · rw [if_pos rfl, BitVec.getLsbD_twoPow, decide_eq_true hn, Bool.true_and, Bool.true_and]
    exact decide_eq_decide.mpr eq_comm

/-- The requests the PPU raises in a tick, bit by bit (R361, R364). -/
theorem getLsbD_ppuRequests (p : Ppu) (i : Nat) : (ppuRequests p).getLsbD i =
    ((decide (p.ppuClock % 456 = 0) && decide (i = 1)) ||
      ((decide (p.ppuClock = 65664) && p.lcdc.getLsbD 7) && decide (i = 0))) := by
  rw [← getLsbD_mask _ 1 i (by decide), ← getLsbD_mask _ 0 i (by decide), ← BitVec.getLsbD_or]
  simp only [decide_eq_true_eq]
  rfl

/-- The requests after a tick, bit by bit. -/
theorem tick_getLsbD_irq (s : State) (i : Nat) : (tick s).irq.getLsbD i =
    (s.irq.getLsbD i || (ppuRequests s.ppu).getLsbD i || (timaOverflows s.clock s.timer && decide (i = 2))) := by
  rw [tick_irq, ← getLsbD_mask _ 2 i (by decide)]
  cases timaOverflows s.clock s.timer
  · simp
  · rw [if_pos rfl, if_pos rfl, BitVec.getLsbD_or, BitVec.getLsbD_or]
    rfl

/-- A tick with the LCD off changes neither the frame buffer nor the sprite cache (R367). -/
theorem ppuEvent_lcdOff (m : Mems) {p : Ppu} (h : p.lcdc.getLsbD 7 = false) :
    (ppuEvent m p).fb = p.fb ∧ (ppuEvent m p).sprites = p.sprites := by
  have hoff : ¬p.lcdc.getLsbD 7 = true := by rw [h]; decide
  rcases ppuEvent_cases m p with ⟨-, e⟩ | ⟨-, e⟩ | ⟨-, -, e⟩ | ⟨-, -, -, e⟩ | ⟨-, -, -, e⟩ | ⟨-, -, e⟩ | ⟨-, -, e⟩
  case inr.inr.inl => rw [e, lineStart, if_neg hoff]; exact ⟨rfl, rfl⟩
  case inr.inr.inr.inr.inl => rw [e, drawTick, if_neg hoff]; exact ⟨rfl, rfl⟩
  all_goals rw [e]; exact ⟨rfl, rfl⟩

theorem ppuAdvance_fb (p : Ppu) : (ppuAdvance p).fb = p.fb := by unfold ppuAdvance; split <;> rfl

theorem ppuAdvance_sprites (p : Ppu) : (ppuAdvance p).sprites = p.sprites := by unfold ppuAdvance; split <;> rfl

/-- Settles O55, by the bits of the requests and the PPU event with the LCD off. -/
theorem pictureRequestsAndLcdOff : Obligations.PictureRequestsAndLcdOff := by
  intro s
  simp only [tick_getLsbD_irq, getLsbD_ppuRequests]
  refine ⟨by simp, by simp, by simp, by simp, fun h => ?_⟩
  rw [tick_ppu, ppuAdvance_fb, ppuAdvance_sprites]
  exact ppuEvent_lcdOff _ h

/-! ### The timer (R315 to R317) -/

theorem timerDivisor_eq : ∀ tac : BitVec 3,
    timerDivisor tac = if tac.toNat % 4 = 0 then 1024 else 4 * 4 ^ (tac.toNat % 4) := by
  decide

theorem getLsbD_two_eq : ∀ tac : BitVec 3, tac.getLsbD 2 = decide (4 ≤ tac.toNat) := by decide

/-- When `TIMA` counts, in numbers (R316). -/
theorem timaCounts_iff (clock : Nat) (tac : BitVec 3) : timaCounts clock tac = true ↔
    4 ≤ tac.toNat ∧ (clock + 1) % (if tac.toNat % 4 = 0 then 1024 else 4 * 4 ^ (tac.toNat % 4)) = 0 := by
  rw [timaCounts, Bool.and_eq_true, getLsbD_two_eq, timerDivisor_eq, decide_eq_true_eq, decide_eq_true_eq]

theorem divStep_toNat (clock : Nat) (div : Byte) :
    (divStep clock div).toNat = if (clock + 1) % 256 = 0 then (div.toNat + 1) % 256 else div.toNat := by
  unfold divStep
  split
  · rw [BitVec.toNat_add]; rfl
  · rfl

/-- Settles O52, by the cases of `timaStep`. -/
theorem timerTicks : Obligations.TimerTicks := by
  intro s n period counts
  have hcounts : timaCounts s.clock s.timer.tac = true ↔ counts := timaCounts_iff _ _
  have hirq : (tick s).irq.getLsbD 2 = (s.irq.getLsbD 2 || timaOverflows s.clock s.timer) := by
    rw [tick_getLsbD_irq, getLsbD_ppuRequests]
    simp
  have htima : (tick s).timer.tima = timaStep s.clock s.timer := by rw [tick_timer]
  rw [hirq, htima, timaOverflows]
  refine ⟨tick_clock s, by rw [tick_timer], by rw [tick_timer], by rw [tick_timer, divStep_toNat], fun hc hff => ?_,
    fun hc hff => ?_, fun hc => ?_⟩
  · rw [timaStep, if_pos (hcounts.mpr hc), if_pos hff, hcounts.mpr hc, decide_eq_true hff]
    exact ⟨rfl, Bool.or_true _⟩
  · have hlt : s.timer.tima.toNat ≠ 255 := fun e => hff (BitVec.eq_of_toNat_eq e)
    have hbyte := s.timer.tima.isLt
    rw [timaStep, if_pos (hcounts.mpr hc), if_neg hff, decide_eq_false hff, Bool.and_false, Bool.or_false]
    refine ⟨?_, rfl⟩
    rw [BitVec.toNat_add]
    exact Nat.mod_eq_of_lt (by simp; omega)
  · have hno : timaCounts s.clock s.timer.tac = false := by simpa using fun h => hc (hcounts.mp h)
    rw [timaStep, hno]
    exact ⟨rfl, Bool.or_false _⟩

/-! ### The frame (R351, R360, R365, R366) -/

theorem cycle_frame {s : State} (hc : s.ppu.ClockOk) (hl : s.ppu.LineOk) :
    (cycle s).ppu.ClockOk ∧ (cycle s).ppu.LineOk ∧ (cycle s).ppu.ppuClock = (s.ppu.ppuClock + 4) % 70224 := by
  have tick' {u : State} {c : Nat} (h : u.ppu.ClockOk ∧ u.ppu.LineOk ∧ u.ppu.ppuClock = c % 70224) :
      (tick u).ppu.ClockOk ∧ (tick u).ppu.LineOk ∧ (tick u).ppu.ppuClock = (c + 1) % 70224 := by
    obtain ⟨hc, hl, hclock⟩ := h
    refine ⟨tick_clockOk hc, tick_lineOk hc hl, ?_⟩
    rw [tick_ppuClock hc, hclock, Nat.mod_add_mod]
  exact tick' (tick' (tick' (tick' ⟨hc, hl, (Nat.mod_eq_of_lt hc).symm⟩)))

theorem cycles_frame (n : Nat) {s : State} (hc : s.ppu.ClockOk) (hl : s.ppu.LineOk) :
    (cycles n s).ppu.LineOk ∧ (cycles n s).ppu.ppuClock = (s.ppu.ppuClock + 4 * n) % 70224 := by
  induction n generalizing s with
  | zero => exact ⟨hl, (Nat.mod_eq_of_lt hc).symm⟩
  | succ n ih =>
    obtain ⟨hc', hl', hclock⟩ := cycle_frame hc hl
    obtain ⟨hline, h⟩ := ih hc' hl'
    refine ⟨hline, h.trans ?_⟩
    rw [hclock, Nat.mod_add_mod]
    congr 1
    omega

/-- Settles O54: `LY` is always the scanline of `ppu_clock`. -/
theorem frameTiming : Obligations.FrameTiming := by
  intro s n hc hl
  obtain ⟨hline, hclock⟩ := cycles_frame n hc hl
  obtain ⟨hline', hclock'⟩ := cycles_frame 17556 hc hl
  have hframe : (s.ppu.ppuClock + 4 * 17556) % 70224 = s.ppu.ppuClock := by
    rw [Nat.add_mod_right]
    exact Nat.mod_eq_of_lt hc
  rw [hframe] at hclock'
  refine ⟨hclock, by rw [← hclock]; exact hline, hclock', BitVec.eq_of_toNat_eq ?_⟩
  rw [hline', hl, hclock']

/-! ### The pixel of a tick (R362, R384) -/

theorem shadeColour_eq : ∀ shade : BitVec 2, shadeColour shade =
    0xFF000000 ||| ([0xD7E894, 0xAEC440, 0x527F39, 0x204631] : List (BitVec 32)).getD shade.toNat 0 := by
  decide

/-- A tick outside mode 3 draws nothing. -/
theorem ppuEvent_fb (m : Mems) (p : Ppu) : (ppuEvent m p).fb =
    if p.ppuClock < 65664 ∧ 80 ≤ p.ppuClock % 456 ∧ p.ppuClock % 456 < 240 ∧ p.lcdc.getLsbD 7 = true then drawPixel m p
    else p.fb := by
  have hcases := ppuEvent_cases m p
  simp only [vblankStart, ticksPerLine] at hcases
  rcases hcases with ⟨h, e⟩ | ⟨h, e⟩ | ⟨-, h, e⟩ | ⟨-, h, h', e⟩ | ⟨h, hlow, hhigh, e⟩ | ⟨-, h, e⟩ | ⟨-, h, e⟩
  case inr.inr.inr.inr.inl =>
    rw [e, drawTick]
    simp only [h, hlow, hhigh, true_and]
  all_goals exact (congrArg Ppu.fb e).trans (if_neg (by omega)).symm

/-- Settles O56: the tick stores one pixel, at the column and row of the invariants. -/
theorem tickDrawsOnePixel : Obligations.TickDrawsOnePixel := by
  intro s hfb hc hl hcol h draws j hj
  obtain ⟨-, hcolumn⟩ := hcol
  rw [tick_ppu, ppuAdvance_fb, ppuEvent_fb]
  by_cases hdraws : draws
  · obtain ⟨hvisible, hlow, hhigh, -⟩ := id hdraws
    have hlx : s.ppu.lx = h - 80 := by
      rw [hcolumn hvisible (show h ≠ 0 by omega)]
      exact Nat.min_eq_left (show h - 80 ≤ 160 by omega)
    have hindex : s.ppu.ly.toNat * screenWidth + s.ppu.lx = s.ppu.ppuClock / 456 * 160 + (h - 80) := by rw [hl, hlx]
    rw [if_pos hdraws, drawPixel, hindex, pixelAt_putPixel hfb, hlx]
    refine ⟨fun _ e => ?_, fun e => ?_⟩
    · rw [if_pos ⟨e, e ▸ hj⟩, shadeColour_eq]
    · rw [if_neg fun hsame => e.elim (fun hno => hno hdraws) fun hne => hne hsame.1]
  · rw [if_neg hdraws]
    exact ⟨fun hyes => absurd hyes hdraws, fun _ => rfl⟩

/-! ### Construction (R51, R52, R400, R401) -/

/-- RAM is zero after construction (R52). -/
theorem busRead_initial_ram (p : Params) {a : Word} (h : plainRam a = true ∨ (0xFE00 ≤ a.toNat ∧ a.toNat < 0xFEA0)) :
    busRead (State.initial p) a = 0 := by
  rw [plainRam_iff] at h
  rcases h with (⟨h, h'⟩ | ⟨h, h'⟩ | ⟨h, h'⟩) | ⟨h, h'⟩
  · exact busRead_eq_deviceRead (deviceAt_vram _ a h h')
  · exact busRead_eq_deviceRead (deviceAt_wram _ a h h')
  · exact busRead_eq_deviceRead (deviceAt_hram _ a h h')
  · exact busRead_eq_deviceRead (deviceAt_oam _ a h h')

theorem deviceAt_stat (b : Bool) : deviceAt b 0xFF41 = .ppu .stat := by
  have hrow : (0xFF41 : Word).toNat - 0xFF00 = 0x41 := by decide
  rw [deviceAt_page b 0xFF41 (by decide) (by decide), hrow]
  rfl

/-- Settles O60: construction gives `State.initial`, whose fields compute. -/
theorem constructionGivesResetState : Obligations.ConstructionGivesResetState := by
  intro p
  refine ⟨fun huse hnone => ?_, fun himage => ⟨State.initial p, ?_, ?_⟩⟩
  · rw [State.construct, huse, hnone]
    rfl
  · rw [State.construct, if_neg]
    rcases himage with h | h <;> simp [h]
  · have hreleased : joypadRead { button := false, dpad := false, pad := Pad.released } = 0x3F := by decide
    have hjoyp : busRead (State.initial p) 0xFF00 = 0x3F :=
      (busRead_eq_deviceRead (s := State.initial p) (deviceAt_joyp _)).trans hreleased
    have hmode : statRead Ppu.initial = 0 := by decide
    have hstat : busRead (State.initial p) 0xFF41 = 0 :=
      (busRead_eq_deviceRead (s := State.initial p) (deviceAt_stat _)).trans hmode
    refine ⟨rfl, rfl, rfl, rfl, rfl, rfl, rfl, fun huse => ?_, fun huse => ?_, fun a => busRead_initial_ram p,
      fun _ => rfl, rfl, rfl, rfl, hjoyp, rfl, rfl, rfl, rfl, hstat, fun v hv => ?_, rfl, rfl, rfl, fun _ => rfl⟩
    · have hregs : (State.initial p).regs = Regs.postBoot := if_neg (by rw [huse]; decide)
      simp only [getStackPair, getPair, hlPair, State.flags, hregs]
      decide
    · have hregs : (State.initial p).regs = Regs.zero := if_pos huse
      simp only [getStackPair, getPair, hlPair, hregs]
      decide
    · repeat (rcases hv with _ | ⟨_, hv⟩; · rfl)
      cases hv

end Sys2Proof.Proofs
end

section
/-! PROOFS. The statement of 61_timer_dma_joypad.md on OAM-DMA (R330 to R333), by the state of a transfer after each of its
ticks. -/

namespace Sys2Proof.Proofs

open Sys2Proof.Machine

/-! ### Machine cycles as ticks (R10) -/

/-- The state `n` ticks later. -/
def ticks : Nat → State → State
  | 0, s => s
  | n + 1, s => tick (ticks n s)

theorem ticks_succ (n : Nat) (s : State) : ticks (n + 1) s = tick (ticks n s) := rfl

theorem ticks_add (m n : Nat) (s : State) : ticks (m + n) s = ticks m (ticks n s) := by
  induction m with
  | zero => rw [Nat.zero_add]; rfl
  | succ m ih => rw [Nat.succ_add, ticks_succ, ih, ticks_succ]

theorem cycles_eq_ticks (n : Nat) (s : State) : cycles n s = ticks (4 * n) s := by
  induction n generalizing s with
  | zero => rfl
  | succ n ih => rw [cycles, ih, Nat.mul_succ, ticks_add]; rfl

theorem ticks_bootMapped (n : Nat) (s : State) : (ticks n s).bootMapped = s.bootMapped := by
  induction n with
  | zero => rfl
  | succ n ih => rw [ticks_succ, tick_bootMapped, ih]

theorem busRead_ticks {b : Word} (h : changesWithTime b = false) (n : Nat) (s : State) :
    busRead (ticks n s) b = busRead s b := by
  induction n with
  | zero => rfl
  | succ n ih => rw [ticks_succ, busRead_tick h, ih]

/-! ### The bytes of a page -/

/-- The address of byte `k` of page `v` (R332). -/
def pageAddr (v : Byte) (k : Nat) : Word := BitVec.ofNat 16 (v.toNat * 256 + k)

theorem pageAddr_toNat (v : Byte) {k : Nat} (hk : k < 160) : (pageAddr v k).toNat = v.toNat * 256 + k := by
  have hv := v.isLt
  exact Nat.mod_eq_of_lt (by omega)

/-- A page below `OAM` holds no byte that time changes (R74). -/
theorem changesWithTime_pageAddr {v : Byte} (hv : v.toNat < 0xFE) {k : Nat} (hk : k < 160) :
    changesWithTime (pageAddr v k) = false := by
  have haddr := pageAddr_toNat v hk
  have hne {b : Word} (n : Nat) (hb : b.toNat = n) (hn : 0xFE00 ≤ n) : (pageAddr v k == b) = false :=
    beq_eq_false_iff_ne.mpr fun e => by rw [← hb, ← e, haddr] at hn; omega
  have hoam : decide (0xFE00 ≤ (pageAddr v k).toNat) = false := decide_eq_false (by omega)
  rw [changesWithTime, hoam, hne 0xFF04 rfl (by decide), hne 0xFF05 rfl (by decide), hne 0xFF0F rfl (by decide),
    hne 0xFF41 rfl (by decide), hne 0xFF44 rfl (by decide)]
  rfl

/-- Page `0xFE` is `OAM` itself. -/
theorem busRead_pageAddr_oam {v : Byte} (hv : v.toNat = 0xFE) {k : Nat} (hk : k < 160) (s : State) :
    busRead s (pageAddr v k) = Memory.read .oam s.mems.oam k := by
  have haddr := pageAddr_toNat v hk
  rw [busRead_eq_deviceRead (deviceAt_oam _ _ (by omega) (by omega)), haddr, hv, Nat.add_sub_cancel_left]
  rfl

/-! ### The transfer -/

theorem deviceAt_dma (b : Bool) : deviceAt b 0xFF46 = .dma := by
  have hrow : (0xFF46 : Word).toNat - 0xFF00 = 0x46 := by decide
  rw [deviceAt_page b 0xFF46 (by decide) (by decide), hrow]
  rfl

/-- Arming a transfer leaves every byte but the one at `0xFF46`. -/
theorem busRead_dmaStart (s : State) (v : Byte) {b : Word} (hb : b.toNat < 0xFF00) :
    busRead (dmaStart s v) b = busRead s b := by
  have hfits := deviceAt_fits s.bootMapped b
  unfold busRead
  rw [dmaStart_bootMapped]
  generalize deviceAt s.bootMapped b = dev at hfits
  cases dev
  case dma =>
    have hdma : b = 0xFF46 := hfits
    subst hdma
    exact absurd hb (by decide)
  case io r => cases r <;> rfl
  all_goals rfl

/-- What a transfer of page `v` that was armed in `s` has done after `j` ticks (R331): the first `j` bytes are copied. -/
structure DmaProgress (s : State) (v : Byte) (j : Nat) (t : State) : Prop where
  dma : t.dma = { active := decide (j < 160), sourcePage := v, index := j }
  others : t.mems = { s.mems with oam := t.mems.oam }
  wf : Memory.wf .oam t.mems.oam = true
  copied : ∀ k, k < 160 →
    Memory.read .oam t.mems.oam k = if k < j then busRead s (pageAddr v k) else Memory.read .oam s.mems.oam k

/-- The byte copied next is still the one of the start. -/
theorem busRead_source {s t : State} {v : Byte} {j : Nat} (hv : v ≠ 0xFF) (hj : j < 160) (h : DmaProgress s v j t)
    (hticks : t = ticks j (dmaStart s v)) : busRead t (pageAddr v j) = busRead s (pageAddr v j) := by
  have hlt := v.isLt
  have hpage : v.toNat ≠ 0xFF := fun e => hv (BitVec.eq_of_toNat_eq e)
  by_cases hoam : v.toNat = 0xFE
  · rw [busRead_pageAddr_oam hoam hj, busRead_pageAddr_oam hoam hj, h.copied j hj, if_neg (Nat.lt_irrefl j)]
  · have haddr := pageAddr_toNat v hj
    rw [hticks, busRead_ticks (changesWithTime_pageAddr (by omega) hj), busRead_dmaStart s v (by omega)]

theorem dmaProgress_start {s : State} (hm : s.mems.Ok) (v : Byte) : DmaProgress s v 0 (dmaStart s v) := by
  obtain ⟨-, hoam, -⟩ := hm
  exact ⟨rfl, rfl, hoam, fun k _ => rfl⟩

theorem dmaProgress_tick {s t : State} {v : Byte} {j : Nat} (hj : j < 160) (h : DmaProgress s v j t)
    (hsource : busRead t (pageAddr v j) = busRead s (pageAddr v j)) : DmaProgress s v (j + 1) (tick t) := by
  have hactive : t.dma.active = true := by rw [h.dma]; exact decide_eq_true hj
  have hindex : t.dma.index = j := by rw [h.dma]
  have hsrc : dmaSource t.dma = pageAddr v j := by rw [h.dma]; rfl
  have hmems : (tick t).mems = { t.mems with oam := Memory.write .oam t.mems.oam j (busRead s (pageAddr v j)) } := by
    rw [tick_mems, if_pos hactive, hindex, hsrc, hsource]
  refine ⟨?dma, ?others, ?wf, fun k hk => ?copied⟩
  case dma =>
    rw [tick_dma, if_pos hactive, dmaAdvance, h.dma]
    by_cases hlast : j + 1 = 160
    · rw [if_pos hlast, hlast]; rfl
    · have hmore : j + 1 < 160 := by omega
      rw [if_neg hlast]
      simp only [hj, hmore, decide_true]
  case others => rw [hmems, h.others]
  case wf => rw [hmems]; exact Memory.wf_write h.wf hj
  case copied =>
    rw [hmems, Memory.read_write h.wf, h.copied k hk]
    by_cases hkj : k = j
    · subst hkj
      simp
    · have hlt : k < j + 1 ↔ k < j := by omega
      simp only [if_neg hkj, hlt]

theorem dmaProgress_ticks {s : State} (hm : s.mems.Ok) {v : Byte} (hv : v ≠ 0xFF) {j : Nat} (hj : j ≤ 160) :
    DmaProgress s v j (ticks j (dmaStart s v)) := by
  induction j with
  | zero => exact dmaProgress_start hm v
  | succ j ih =>
    have h := ih (by omega)
    rw [ticks_succ]
    exact dmaProgress_tick hj h (busRead_source hv hj h rfl)

/-- Settles O53: forty machine cycles are 160 ticks. -/
theorem dmaCopiesPage : Obligations.DmaCopiesPage := by
  intro s v hm hv t
  have hstart : busWrite s 0xFF46 v = dmaStart s v := busWrite_eq_deviceWrite (deviceAt_dma _) v
  have hcycles (n : Nat) : cycles n (memWrite 0xFF46 v s) = ticks (4 * (n + 1)) (dmaStart s v) := by
    rw [← cycles_eq_ticks, cycles, memWrite, hstart]
  have hdone : DmaProgress s v 160 t := by
    rw [show t = _ from hcycles 39]
    exact dmaProgress_ticks hm hv (Nat.le_refl 160)
  have hbefore : DmaProgress s v 156 (cycles 38 (memWrite 0xFF46 v s)) := by
    rw [hcycles]
    exact dmaProgress_ticks hm hv (by decide)
  refine ⟨fun k hk => ?_, hdone.dma, by rw [hbefore.dma]; rfl, by rw [hdone.others], by rw [hdone.others],
    by rw [hdone.others], by rw [hdone.others]⟩
  rw [hdone.copied k hk, if_pos hk]
  rfl

end Sys2Proof.Proofs
end

section
/-! PROOFS. The statement of 70_reset_and_hazards.md on `StepFrame` (R411), by the ticks that every step runs. -/

namespace Sys2Proof.Proofs

open Sys2Proof.Machine

/-! ### The PPU clock along a run -/

/-- No bus write reaches `ppu_clock`. -/
theorem busWrite_ppuClock (s : State) (a : Word) (v : Byte) : (busWrite s a v).ppu.ppuClock = s.ppu.ppuClock := by
  unfold busWrite
  cases deviceAt s.bootMapped a
  case io r => cases r <;> rfl
  case ppu r => cases r <;> rfl
  case cartRom k => simp only [deviceWrite, cartRomWrite]; (repeat' split) <;> rfl
  case cartRam k => simp only [deviceWrite]; split <;> rfl
  case bootUnmap => simp only [deviceWrite]; split <;> rfl
  all_goals rfl

theorem cycle_ppuClock {s : State} (hs : AgentsOk s) : (cycle s).ppu.ppuClock = (s.ppu.ppuClock + 4) % 70224 :=
  (cycle_frame hs.clockOk hs.lineOk).2.2

/-- Each machine cycle of a run moves `ppu_clock` by four ticks (R351). -/
theorem Runs.ppuClock {s t : State} {n : Nat} (h : Runs s n t) (hs : AgentsOk s) :
    t.ppu.ppuClock = (s.ppu.ppuClock + 4 * n) % 70224 := by
  induction h with
  | refl => exact (Nat.mod_eq_of_lt hs.clockOk).symm
  | regs _ _ _ ih => exact ih
  | cycle h ih =>
    rw [cycle_ppuClock (h.agentsOk hs), ih, Nat.mod_add_mod]
    rfl
  | memWrite a v h ih =>
    rw [Machine.memWrite, cycle_ppuClock (busWrite_agentsOk (h.agentsOk hs) a v), busWrite_ppuClock, ih, Nat.mod_add_mod]
    rfl

/-- The longest step (R293, R420). -/
def maxStepCycles (s : State) : Nat := max 6 (s.params.intEntryInternalMc + 2)

/-- The time of a step: at least one machine cycle, by which the clock and `ppu_clock` move. -/
theorem step_time {s t : State} (hs : s.Inv) (h : step s = .next t) : ∃ n, 1 ≤ n ∧ n ≤ maxStepCycles s ∧
    t.clock = s.clock + 4 * n ∧ t.ppu.ppuClock = (s.ppu.ppuClock + 4 * n) % 70224 ∧ t.params = s.params := by
  obtain ⟨n, c, r, u, hpos, hmax, hrun, ht⟩ := step_runs h
  have hagents : AgentsOk { s with ctl := c, irq := r } := ((coreOk_of_inv hs).withCtlIrq c r).agentsOk
  exact ⟨n, hpos, hmax, by rw [ht]; exact hrun.clock, by rw [ht]; exact hrun.ppuClock hagents,
    by rw [ht]; exact hrun.keepsBoot.1⟩

/-! ### The loop (R411) -/

/-- The ticks before the one that starts line 144. -/
def toBoundary (s : State) : Nat := (135888 - s.ppu.ppuClock) % 70224

theorem toBoundary_lt (s : State) : toBoundary s < 70224 := Nat.mod_lt _ (by decide)

theorem passedVBlank_eq (s t : State) : passedVBlank s t = decide (toBoundary s < t.clock - s.clock) := rfl

/-- The states of a run, with one more in front. -/
def consRun (s : State) (run : Nat → State) : Nat → State
  | 0 => s
  | k + 1 => run k

/-- `u` is where whole steps from `s` end: past the boundary, or in a terminal status. -/
def FrameRun (s u : State) : Prop :=
  ∃ (n : Nat) (run : Nat → State), 0 < n ∧ run 0 = s ∧ run n = u ∧
    (∀ k, k < n → step (run k) = .next (run (k + 1)) ∧ (run k).clock ≤ s.clock + toBoundary s) ∧
    s.clock ≤ u.clock ∧ u.ppu.ppuClock = (s.ppu.ppuClock + (u.clock - s.clock)) % 70224 ∧
    (u.ctl.status ≠ .running ∨ toBoundary s < u.clock - s.clock) ∧
    u.clock - s.clock ≤ toBoundary s + 4 * maxStepCycles s

section
variable {s t u : State} {m : Nat} (h : step s = .next t) (hclock : t.clock = s.clock + 4 * m)
  (hppu : t.ppu.ppuClock = (s.ppu.ppuClock + 4 * m) % 70224)
include h hclock hppu

/-- One step that ends the call. -/
theorem frameRun_one (hm : m ≤ maxStepCycles s) (hend : t.ctl.status ≠ .running ∨ toBoundary s < 4 * m) : FrameRun s t := by
  have hsub : t.clock - s.clock = 4 * m := by omega
  refine ⟨1, consRun s fun _ => t, by decide, rfl, rfl, fun k hk => ?_, by omega, by rw [hsub, hppu], by rwa [hsub], by omega⟩
  have hzero : k = 0 := by omega
  subst hzero
  exact ⟨h, Nat.le_add_right _ _⟩

/-- One step before the boundary in front of the rest of the call. -/
theorem frameRun_cons (hc : s.ppu.ClockOk) (hbefore : 4 * m ≤ toBoundary s) (hparams : t.params = s.params)
    (hrest : FrameRun t u) : FrameRun s u := by
  have hc' : s.ppu.ppuClock < 70224 := hc
  obtain ⟨n, run, -, hzero, hlast, hsteps, hle, hppu', hend, hmax⟩ := hrest
  have hboundary : toBoundary t + 4 * m = toBoundary s := by
    unfold toBoundary at hbefore ⊢
    rw [hppu]
    omega
  have hcycles : maxStepCycles t = maxStepCycles s := by rw [maxStepCycles, maxStepCycles, hparams]
  refine ⟨n + 1, consRun s run, Nat.succ_pos n, rfl, hlast, fun k hk => ?_, by omega, ?_,
    hend.imp_right fun hpast => by omega, by omega⟩
  · cases k with
    | zero =>
      refine ⟨?_, Nat.le_add_right _ _⟩
      show step s = .next (run 0)
      rw [hzero, h]
    | succ k =>
      obtain ⟨hstep, hle'⟩ := hsteps k (by omega)
      exact ⟨hstep, by show (run k).clock ≤ _; omega⟩
  · rw [hppu', hppu, Nat.mod_add_mod]
    congr 1
    omega

end

/-- In a terminal status the loop ends at once (R411, D31). -/
theorem stepFrameFrom_terminal (start fuel : Nat) {s : State} (h : s.ctl.status ≠ .running) :
    stepFrameFrom start fuel s = (s.clock - start, s) := by
  cases fuel with
  | zero => rfl
  | succ fuel => rw [stepFrameFrom, step_terminal h]

/-- The loop gives back the ticks since its start. -/
theorem stepFrameFrom_fst (start fuel : Nat) (s : State) :
    (stepFrameFrom start fuel s).1 = (stepFrameFrom start fuel s).2.clock - start := by
  induction fuel generalizing s with
  | zero => rfl
  | succ fuel ih =>
    rw [stepFrameFrom]
    split
    · split
      · rfl
      · exact ih _
    · rfl
    · rfl

/-- With fuel for the ticks before the boundary, the loop ends past it. -/
theorem stepFrameFrom_frameRun (start fuel : Nat) {s : State} (hs : s.Inv) (hrun : s.ctl.status = .running)
    (hfuel : toBoundary s < 4 * fuel) : FrameRun s (stepFrameFrom start fuel s).2 := by
  induction fuel generalizing s with
  | zero => omega
  | succ fuel ih =>
    obtain ⟨t, h⟩ := (stepExactlyWhileRunning s).1.mpr hrun
    obtain ⟨m, hpos, hmax, hclock, hppu, hparams⟩ := step_time hs h
    have hsub : t.clock - s.clock = 4 * m := by omega
    simp only [stepFrameFrom, h, passedVBlank_eq, hsub, decide_eq_true_eq]
    by_cases hpassed : toBoundary s < 4 * m
    · rw [if_pos hpassed]
      exact frameRun_one h hclock hppu hmax (.inr hpassed)
    · rw [if_neg hpassed]
      by_cases hrun' : t.ctl.status = .running
      · refine frameRun_cons h hclock hppu hs.clockOk (by omega) hparams (ih (stepKeepsInvariants s t hs h) hrun' ?_)
        have hc : s.ppu.ppuClock < 70224 := hs.clockOk
        unfold toBoundary at *
        omega
      · rw [stepFrameFrom_terminal start fuel hrun']
        exact frameRun_one h hclock hppu hmax (.inl hrun')

/-- Settles O59: a frame has as many machine cycles as the loop has fuel. -/
theorem stepFrameReachesVBlank : Obligations.StepFrameReachesVBlank := by
  refine ⟨fun s hs hrun => ?_, fun s h => ?_⟩
  · have hlt := toBoundary_lt s
    obtain ⟨n, run, hn, hzero, hlast, hsteps, hle, hppu, hend, hmax⟩ :=
      stepFrameFrom_frameRun s.clock frameSteps hs hrun (by unfold frameSteps; omega)
    have hticks : (stepFrame s).1 = (stepFrame s).2.clock - s.clock := stepFrameFrom_fst _ _ _
    change run n = (stepFrame s).2 at hlast
    change s.clock ≤ (stepFrame s).2.clock at hle
    refine ⟨n, run, hn, hzero, hlast, hsteps, ?_⟩
    rw [hlast, hticks]
    refine ⟨by omega, hppu, hend, Nat.le_trans hmax ?_⟩
    exact Nat.add_le_add_right (Nat.le_of_lt_succ hlt) _
  · rw [stepFrame, stepFrameFrom_terminal _ _ h, Nat.sub_self]

end Sys2Proof.Proofs
end

section
/-! PROOFS. The statements of 62_ppu.md on the sprite cache (R352, R370 to R373) and on the composition of a pixel (R353,
R374 to R381). -/

namespace Sys2Proof.Proofs

open Sys2Proof.Machine

/-! ### Selection: the first ten entries (R370, R371) -/

/-- Which indexes are among the first `k` of those below `n` that satisfy `q`. -/
theorem mem_take_filter_range (q : Nat → Bool) (k n i : Nat) : i ∈ ((List.range n).filter q).take k ↔
    i < n ∧ q i = true ∧ ((List.range i).filter q).length < k := by
  induction n with
  | zero => simp
  | succ n ih =>
    rw [List.range_succ, List.filter_append, List.take_append, List.mem_append, ih]
    by_cases hi : i = n
    · subst hi
      by_cases hq : q i = true
      · by_cases hlen : ((List.range i).filter q).length < k
        · have hpos : 0 < k - ((List.range i).filter q).length := by omega
          obtain ⟨d, hd⟩ := Nat.exists_eq_succ_of_ne_zero (Nat.pos_iff_ne_zero.mp hpos)
          simp [hq, hlen, hd]
        · have hnone : k - ((List.range i).filter q).length = 0 := by omega
          simp [hlen, hnone]
      · simp [hq]
    · have hnot : i ∉ (([n] : List Nat).filter q).take (k - ((List.range n).filter q).length) := fun h => by
        have hmem := List.mem_of_mem_take h
        simp [hi] at hmem
      have hlt : i < n ↔ i < n + 1 := by omega
      rw [hlt]
      simp [hnot]

/-- The hit of an intersecting entry (R352, R370). -/
def hitOf (m : Mems) (p : Ppu) (i : Nat) : SpriteHit :=
  { x := oamByte m (4 * i + 1), y := oamByte m (4 * i), tile := oamByte m (4 * i + 2), attr := oamByte m (4 * i + 3),
    row := p.ly.toNat + 16 - (oamByte m (4 * i)).toNat }

theorem spriteHit_eq (m : Mems) (p : Ppu) (i : Nat) : spriteHit m p.lcdc p.ly i =
    if spriteIntersects m p i = true then some (hitOf m p i) else none := by
  have hiff : (0 ≤ (p.ly.toNat + 16 - (oamByte m (4 * i)).toNat : Int) ∧
      (p.ly.toNat + 16 - (oamByte m (4 * i)).toNat : Int) < spriteHeight p.lcdc) ↔ spriteIntersects m p i = true := by
    rw [spriteIntersects, Bool.and_eq_true, decide_eq_true_eq, decide_eq_true_eq]
    omega
  simp only [spriteHit, hiff]
  split
  · rw [hitOf]
    congr 2
    omega
  · rfl

theorem filterMap_ite {α β : Type} (q : α → Bool) (f : α → β) (l : List α) :
    (l.filterMap fun a => if q a = true then some (f a) else none) = (l.filter q).map f := by
  induction l with
  | nil => rfl
  | cons a l ih => by_cases hq : q a = true <;> simp [hq, ih]

/-- The indexes of the entries that the cache holds, in OAM order. -/
def chosenSprites (m : Mems) (p : Ppu) : List Nat := ((List.range 40).filter (spriteIntersects m p)).take 10

theorem spriteHits_eq (m : Mems) (p : Ppu) : spriteHits m p.lcdc p.ly = (chosenSprites m p).map (hitOf m p) := by
  have hhit : spriteHit m p.lcdc p.ly = fun i => if spriteIntersects m p i = true then some (hitOf m p i) else none :=
    funext (spriteHit_eq m p)
  rw [spriteHits, hhit, filterMap_ite, chosenSprites, List.map_take]

theorem chosenSprites_pairwise (m : Mems) (p : Ppu) : (chosenSprites m p).Pairwise (· < ·) :=
  (List.pairwise_lt_range.filter _).take

/-! ### Order: by `x`, then by OAM index (R370) -/

/-- The column of an entry. -/
def spriteX (m : Mems) (i : Nat) : Nat := (oamByte m (4 * i + 1)).toNat

/-- Entry `i` stands no further right than entry `j`. -/
abbrev NotRightOf (m : Mems) (i j : Nat) : Prop := spriteX m i ≤ spriteX m j

/-- The order of the cache. -/
def Before (m : Mems) (i j : Nat) : Prop := spriteX m i < spriteX m j ∨ (spriteX m i = spriteX m j ∧ i < j)

/-- An index inserted before the first that stands no further left. -/
def insertIndex (m : Mems) (i : Nat) : List Nat → List Nat
  | [] => [i]
  | j :: l => if NotRightOf m i j then i :: j :: l else j :: insertIndex m i l

/-- The stable sort of indexes by column. -/
def sortIndexes (m : Mems) : List Nat → List Nat
  | [] => []
  | i :: l => insertIndex m i (sortIndexes m l)

theorem perm_insertIndex (m : Mems) (i : Nat) (l : List Nat) : (insertIndex m i l).Perm (i :: l) := by
  induction l with
  | nil => exact .refl _
  | cons j l ih =>
    rw [insertIndex]
    split
    · exact .refl _
    · exact (ih.cons j).trans (.swap i j l)

theorem perm_sortIndexes (m : Mems) (l : List Nat) : (sortIndexes m l).Perm l := by
  induction l with
  | nil => exact .refl _
  | cons i l ih => exact (perm_insertIndex m i _).trans (ih.cons i)

theorem insertByX_hitOf (m : Mems) (p : Ppu) (i : Nat) (l : List Nat) :
    insertByX (hitOf m p i) (l.map (hitOf m p)) = (insertIndex m i l).map (hitOf m p) := by
  induction l with
  | nil => rfl
  | cons j l ih =>
    have hiff : (hitOf m p i).x.toNat ≤ (hitOf m p j).x.toNat ↔ NotRightOf m i j := Iff.rfl
    rw [List.map_cons, insertByX, insertIndex, ih]
    simp only [hiff]
    split <;> rfl

theorem sortByX_hitOf (m : Mems) (p : Ppu) (l : List Nat) :
    sortByX (l.map (hitOf m p)) = (sortIndexes m l).map (hitOf m p) := by
  induction l with
  | nil => rfl
  | cons i l ih =>
    rw [List.map_cons, sortByX, ih, insertByX_hitOf]
    rfl

/-- Inserting an index that is below all others keeps the order. -/
theorem pairwise_insertIndex {m : Mems} {i : Nat} {l : List Nat} (hl : l.Pairwise (Before m)) (hlow : ∀ j ∈ l, i < j) :
    (insertIndex m i l).Pairwise (Before m) := by
  induction l with
  | nil => exact List.pairwise_singleton _ i
  | cons b l ih =>
    obtain ⟨hb, hl'⟩ := List.pairwise_cons.mp hl
    rw [insertIndex]
    split
    · next hle =>
      refine List.pairwise_cons.mpr ⟨fun c hc => ?_, hl⟩
      have hc' : spriteX m b ≤ spriteX m c := by
        rcases List.mem_cons.mp hc with rfl | hc
        · exact Nat.le_refl _
        · rcases hb c hc with h | h <;> omega
      have hic := hlow c hc
      unfold Before
      unfold NotRightOf at hle
      omega
    · next hgt =>
      refine List.pairwise_cons.mpr ⟨fun c hc => ?_, ih hl' fun j hj => hlow j (List.mem_cons_of_mem b hj)⟩
      rcases List.mem_cons.mp ((perm_insertIndex m i l).mem_iff.mp hc) with rfl | hc
      · exact .inl (Nat.not_le.mp hgt)
      · exact hb c hc

theorem pairwise_sortIndexes {m : Mems} {l : List Nat} (hl : l.Pairwise (· < ·)) :
    (sortIndexes m l).Pairwise (Before m) := by
  induction l with
  | nil => exact List.Pairwise.nil
  | cons i l ih =>
    obtain ⟨hi, hl'⟩ := List.pairwise_cons.mp hl
    refine pairwise_insertIndex (ih hl') fun j hj => hi j ?_
    exact (perm_sortIndexes m l).mem_iff.mp hj

/-- The indexes of the entries that the cache holds, in its order. -/
def cacheOrder (m : Mems) (p : Ppu) : List Nat := sortIndexes m (chosenSprites m p)

theorem cacheOrder_perm (m : Mems) (p : Ppu) : (cacheOrder m p).Perm (chosenSprites m p) := perm_sortIndexes m _

theorem buildSpriteCache_eq (m : Mems) (p : Ppu) :
    buildSpriteCache m p = (cacheOrder m p).map fun i => spriteEntry m p.lcdc (hitOf m p i) := by
  rw [buildSpriteCache, spriteHits_eq, sortByX_hitOf, List.map_map]
  rfl

/-! ### Contents (R352, R370, R372) -/

/-- Flipping a row below the height by exclusive or is counting from the other end. -/
theorem xor_height (lcdc : Byte) {r : Nat} (h : r < spriteHeight lcdc) :
    r ^^^ (spriteHeight lcdc - 1) = spriteHeight lcdc - 1 - r := by
  have hflip : (∀ r, r < 8 → r ^^^ 7 = 7 - r) ∧ ∀ r, r < 16 → r ^^^ 15 = 15 - r := by decide
  unfold spriteHeight at *
  by_cases htall : lcdc.getLsbD 2 = true
  · simp only [if_pos htall] at h ⊢
    exact hflip.2 r h
  · simp only [if_neg htall] at h ⊢
    exact hflip.1 r h

theorem tileLine_toList (m : Mems) (a : Nat) : (tileLine m a).toList = (List.range 8).map (tilePixel m a) := rfl

theorem reversePixels_tileLine_toList (m : Mems) (a : Nat) :
    (reversePixels (tileLine m a)).toList = (List.range 8).map fun k => tilePixel m a (7 - k) := rfl

/-- The row of its tile that a hit shows, flips applied. -/
def shownRow (lcdc : Byte) (hit : SpriteHit) : Nat :=
  if hit.attr.getLsbD 6 then spriteHeight lcdc - 1 - hit.row else hit.row

theorem spriteEntry_pix (m : Mems) (lcdc : Byte) {hit : SpriteHit} (hrow : hit.row < spriteHeight lcdc) :
    (spriteEntry m lcdc hit).pix.toList = (List.range 8).map fun k =>
      tilePixel m (hit.tile.toNat * 16 + shownRow lcdc hit * 2) (if hit.attr.getLsbD 5 then 7 - k else k) := by
  have hheight : spriteHeight lcdc ≤ 16 := by unfold spriteHeight; split <;> decide
  have htile := hit.tile.isLt
  have hshown : shownRow lcdc hit < 16 := by unfold shownRow; split <;> omega
  have haddr : (hit.tile.toNat * 16 + shownRow lcdc hit * 2) % 0x2000 = hit.tile.toNat * 16 + shownRow lcdc hit * 2 :=
    Nat.mod_eq_of_lt (by omega)
  rw [spriteEntry, xor_height lcdc hrow]
  change (if hit.attr.getLsbD 5 then reversePixels (tileLine m ((hit.tile.toNat * 16 + shownRow lcdc hit * 2) % 0x2000))
    else tileLine m ((hit.tile.toNat * 16 + shownRow lcdc hit * 2) % 0x2000)).toList = _
  rw [haddr]
  cases hit.attr.getLsbD 5
  · exact tileLine_toList m _
  · exact reversePixels_tileLine_toList m _

/-- The entry of an intersecting sprite holds what the spec lists. -/
theorem spriteEntry_eq (m : Mems) (p : Ppu) {i : Nat} (h : spriteIntersects m p i = true) :
    let sp := spriteEntry m p.lcdc (hitOf m p i)
    (sp.x, sp.y, sp.tile, sp.attr, sp.pix.toList) = cachedEntry m p i := by
  have hrow : (hitOf m p i).row < spriteHeight p.lcdc := by
    rw [spriteIntersects, Bool.and_eq_true, decide_eq_true_eq, decide_eq_true_eq] at h
    simp only [hitOf]
    omega
  intro sp
  rw [spriteEntry_pix m p.lcdc hrow]
  rfl

/-! ### The tick that rebuilds the cache (R361, R367, R373) -/

theorem ppuEvent_sprites (m : Mems) (p : Ppu) : (ppuEvent m p).sprites =
    if p.ppuClock < 65664 ∧ p.ppuClock % 456 = 0 ∧ p.lcdc.getLsbD 7 = true then buildSpriteCache m p else p.sprites := by
  have hcases := ppuEvent_cases m p
  simp only [vblankStart, ticksPerLine] at hcases
  rcases hcases with ⟨h, e⟩ | ⟨h, e⟩ | ⟨h, hstart, e⟩ | ⟨-, h, -, e⟩ | ⟨-, h, -, e⟩ | ⟨-, h, e⟩ | ⟨-, h, e⟩
  case inr.inr.inl =>
    rw [e, lineStart]
    simp only [h, hstart, true_and]
  all_goals exact (congrArg Ppu.sprites e).trans (if_neg (by omega)).symm

/-- Settles O57: the cache is the chosen entries in the order of a stable sort. -/
theorem spriteCacheSelection : Obligations.SpriteCacheSelection := by
  refine ⟨fun m p => ⟨cacheOrder m p, ?nodup, ?length, fun i => ?mem, ?sorted, ?contents⟩, fun s => ?tick⟩
  case nodup => exact (cacheOrder_perm m p).nodup_iff.mpr ((chosenSprites_pairwise m p).imp Nat.ne_of_lt)
  case length =>
    rw [(cacheOrder_perm m p).length_eq]
    exact List.length_take_le _ _
  case mem => rw [(cacheOrder_perm m p).mem_iff, chosenSprites, mem_take_filter_range]
  case sorted =>
    refine (pairwise_sortIndexes (chosenSprites_pairwise m p)).imp fun {i j} h => ?_
    exact h.imp_right fun ⟨hx, hij⟩ => ⟨BitVec.eq_of_toNat_eq hx, hij⟩
  case contents =>
    rw [buildSpriteCache_eq, List.map_map]
    refine List.map_congr_left fun i hi => spriteEntry_eq m p ?_
    rw [(cacheOrder_perm m p).mem_iff, chosenSprites, mem_take_filter_range] at hi
    obtain ⟨-, hintersects, -⟩ := hi
    exact hintersects
  case tick => rw [tick_ppu, ppuAdvance_sprites, ppuEvent_sprites]

/-! ### Background and window (R353, R374 to R376) -/

/-- The point of the tile map that the background or the window shows at a column, where one of them shows (R374). -/
theorem backgroundPixel_eq (m : Mems) (p : Ppu) (lx : Nat) (h : windowCovers p lx = true ∨ p.lcdc.getLsbD 0 = true) :
    let index := mapIndex m p.lcdc (if windowCovers p lx then p.lcdc.getLsbD 6 else p.lcdc.getLsbD 3)
      (if windowCovers p lx then lx + 7 - p.wx.toNat else (lx + p.scx.toNat) % 256)
      (if windowCovers p lx then p.ly.toNat - p.wy.toNat else (p.ly.toNat + p.scy.toNat) % 256)
    backgroundPixel m p lx = (index, paletteShade p.bgp index) := by
  unfold backgroundPixel
  cases hw : windowCovers p lx
  · have hon : p.lcdc.getLsbD 0 = true := by simpa [hw] using h
    rw [hon]
    rfl
  · rfl

theorem backgroundPixel_off (m : Mems) {p : Ppu} {lx : Nat} (h : ¬(windowCovers p lx = true ∨ p.lcdc.getLsbD 0 = true)) :
    backgroundPixel m p lx = (0, 0) := by
  rw [not_or] at h
  rw [backgroundPixel, if_neg h.1, if_neg h.2]

/-! ### Sprites (R380, R381) -/

theorem winningSprite_eq (sprites : List Sprite) (lx : Nat) : winningSprite sprites lx = sprites.find? (opaqueAt lx) := by
  rw [winningSprite, funext (opaqueAt_eq lx)]

theorem paletteShade_eq_ofNat (reg : Byte) (i : BitVec 2) :
    paletteShade reg i = BitVec.ofNat 2 (reg.toNat / 4 ^ i.toNat) :=
  BitVec.eq_of_toNat_eq (paletteShade_toNat reg i)

/-- The first opaque sprite wins, and yields to a nonzero background index if its priority bit is set. -/
theorem pixelShade_sprite (m : Mems) {p : Ppu} {lx : Nat} {sp : Sprite} (hon : p.lcdc.getLsbD 1 = true)
    (hwins : winningSprite p.sprites lx = some sp) : pixelShade m p lx =
      if sp.attr.getLsbD 7 = true ∧ (backgroundPixel m p lx).1 ≠ 0 then (backgroundPixel m p lx).2
      else paletteShade (objectPalette p sp) (spritePixel lx sp) := by
  rw [pixelShade, if_pos hon, hwins]
  simp only [Bool.and_eq_true, bne_iff_ne]

theorem pixelShade_noSprite (m : Mems) {p : Ppu} {lx : Nat}
    (h : p.lcdc.getLsbD 1 = false ∨ winningSprite p.sprites lx = none) :
    pixelShade m p lx = (backgroundPixel m p lx).2 := by
  rw [pixelShade]
  rcases h with h | h
  · rw [h]
    rfl
  · rw [h]
    exact ite_self _

/-- Settles O58, by the lookups in numbers and by the first opaque entry of the cache. -/
theorem spritePriority : Obligations.SpritePriority := by
  intro m p lx
  refine ⟨?background, fun before sp after hon hsprites hbefore hopaque => ?sprite, fun hnone => ?none⟩
  case background =>
    intro inWindow x y map tile first line index shown
    by_cases hshows : inWindow = true ∨ p.lcdc.getLsbD 0 = true
    · have hpixel := backgroundPixel_eq m p lx hshows
      have hindex : (mapIndex m p.lcdc (if inWindow then p.lcdc.getLsbD 6 else p.lcdc.getLsbD 3) x y).toNat = index := by
        rw [mapIndex_eq_tilePixel, tilePixel_toNat]
        rfl
      rw [if_pos hshows, ← hindex, ← paletteShade_toNat]
      exact ⟨congrArg (·.1.toNat) hpixel, congrArg (·.2.toNat) hpixel⟩
    · rw [if_neg hshows]
      exact backgroundPixel_off m hshows
  case sprite =>
    have hwins : winningSprite p.sprites lx = some sp := by
      rw [winningSprite_eq, List.find?_eq_some_iff_append]
      exact ⟨hopaque, before, after, hsprites, fun q hq => by rw [hbefore q hq]; rfl⟩
    rw [pixelShade_sprite m hon hwins, paletteShade_eq_ofNat]
    rfl
  case none =>
    refine pixelShade_noSprite m (hnone.imp_right fun h => ?_)
    rw [winningSprite_eq, List.find?_eq_none]
    exact fun q hq => by rw [h q hq]; decide

end Sys2Proof.Proofs
end
